-- ==== Sys2Proof/Word.lean ====
section
/-! DEFINITION. The two word types of the hardware (R4, R6): bytes and 16-bit words. -/

namespace Sys2Proof

/-- An 8-bit value: A, X, Y, SP, an opcode, a bus datum (R4). -/
abbrev Byte := BitVec 8

/-- A 16-bit value: PC, a bus address, `addr_abs`, `addr_rel`, `temp` (R4). -/
abbrev Word := BitVec 16

end Sys2Proof
end

