-- ==== Sys2Proof/Config.lean ====
section
/-! DEFINITION. The `Bus` parameter (R51, 92 D21), and what an implementation fixes: the named parameters of R5 at the
defaults the spec chose. -/

namespace Sys2Proof

/-- What a platform promises of an address, the named premise of R51 as data. `ram`: the address behaves as plain RAM,
so its byte is in the state's memory and a read has no effect. `unmapped`: nothing answers; a read returns OPEN_BUS and a
write is dropped (R52). `device`: nothing is promised; the `Bus` parameter decides everything (a peripheral register, a
mirror, a bank). -/
inductive BusTarget where
  | ram
  | unmapped
  | device
deriving DecidableEq, Repr

/-- A window of the address map, both ends included. -/
structure Window where
  first : Word
  last : Word
  target : BusTarget
deriving DecidableEq, Repr

/-- One bus access of one byte (R50), as what lies behind the bus sees it. -/
inductive BusAccess where
  | read (addr : Word)
  | write (addr : Word) (value : Byte)
deriving DecidableEq, Repr

/-- The bus, "a parameter of the model, not part of the block" (R51): over a state type, the state the platform starts
it in, and the two operations. A read may change the state. -/
structure Bus (BusState : Type) where
  start : BusState
  read : BusState → Word → BusState × Byte
  write : BusState → Word → Byte → BusState
deriving Inhabited

namespace Config

/-- The `Bus` of R5 and R51, with `OPEN_BUS` part of it: "none; supplied by the platform". A FREE VALUE
(notes/assumptions/4.md): it has no body, so nothing can be proved of it, and a claim about a platform takes what it needs
of its bus as a premise. Its states are numbered: the states a bus can reach are countable, so no bus is shut out. -/
opaque bus : Bus Nat

/-- `RESET_CYCLES` (R5): ticks a reset charges before the first fetch. -/
def resetCycles : Byte := 7#8

/-- `INT_CYCLES` (R5): ticks an IRQ or NMI entry charges. -/
def intCycles : Byte := 7#8

/-- `RESET_AXY` (R5): A, X and Y after reset. -/
def resetAxy : Byte := 0x00#8

/-- `RESET_SP` (R5): SP after reset. -/
def resetSp : Byte := 0xFD#8

/-- `NMI_VECTOR` (R5, R59). -/
def nmiVector : Word := 0xFFFA#16

/-- `RESET_VECTOR` (R5, R59). -/
def resetVector : Word := 0xFFFC#16

/-- `IRQ_VECTOR` (R5, R59), shared by IRQ and BRK. -/
def irqVector : Word := 0xFFFE#16

end Config

end Sys2Proof
end

