-- ==== Sys2Proof/Syntax.lean ====
section
/-! DEFINITION. The instructions: one constructor for each of the 256 rows of spec/opcode_table.json (R85 to R87), with
its operand fields at the widths the encoding gives them (R80, R82). -/

namespace Sys2Proof

/-- The twelve addressing modes (41_addressing_modes.md). Accumulator forms use `imp` (R92, R124). -/
inductive Mode where
  | imp | imm | zp | zpx | zpy | rel | abs | abx | aby | ind | izx | izy
deriving DecidableEq, Repr

/-- The handlers (R83): one per mnemonic of R86, and `xxx`, the no-op handler of 77 of the unassigned opcodes (R251). -/
inductive Handler where
  | adc | and | asl | bcc | bcs | beq | bit | bmi | bne | bpl | brk | bvc
  | bvs | clc | cld | cli | clv | cmp | cpx | cpy | dec | dex | dey | eor
  | inc | inx | iny | jmp | jsr | lda | ldx | ldy | lsr | nop | ora | pha
  | php | pla | plp | rol | ror | rti | rts | sbc | sec | sed | sei | sta
  | stx | sty | tax | tay | tsx | txa | txs | tya | xxx
deriving DecidableEq, Repr

/-- The operand of an instruction: its addressing mode with its operand bytes (R80, R82). A word operand is written
`h:l`, its low byte first in memory. `skipped` is BRK's padding byte (R184), which has no use and is never read. -/
inductive Operand where
  | imp
  | imm (v : Byte)
  | skipped
  | zp (b : Byte)
  | zpx (b : Byte)
  | zpy (b : Byte)
  | rel (b : Byte)
  | abs (w : Word)
  | abx (w : Word)
  | aby (w : Word)
  | ind (w : Word)
  | izx (b : Byte)
  | izy (b : Byte)
deriving DecidableEq, Repr

/-- The mode of an operand. BRK is listed with mode IMM (R80). -/
def Operand.mode : Operand → Mode
  | .imp => .imp
  | .imm _ => .imm
  | .skipped => .imm
  | .zp _ => .zp
  | .zpx _ => .zpx
  | .zpy _ => .zpy
  | .rel _ => .rel
  | .abs _ => .abs
  | .abx _ => .abx
  | .aby _ => .aby
  | .ind _ => .ind
  | .izx _ => .izx
  | .izy _ => .izy

/-- The instructions: the rows with operand bytes in the order of their opcodes, then the rows without (Lean numbers the
constructors with fields below a limit, so they stand first). -/
inductive Instr where
  | oraIzx (b : Byte)
  | oraZp (b : Byte)
  | aslZp (b : Byte)
  | oraImm (v : Byte)
  | oraAbs (w : Word)
  | aslAbs (w : Word)
  | bpl (b : Byte)
  | oraIzy (b : Byte)
  | oraZpx (b : Byte)
  | aslZpx (b : Byte)
  | oraAby (w : Word)
  | oraAbx (w : Word)
  | aslAbx (w : Word)
  | jsr (w : Word)
  | andIzx (b : Byte)
  | bitZp (b : Byte)
  | andZp (b : Byte)
  | rolZp (b : Byte)
  | andImm (v : Byte)
  | bitAbs (w : Word)
  | andAbs (w : Word)
  | rolAbs (w : Word)
  | bmi (b : Byte)
  | andIzy (b : Byte)
  | andZpx (b : Byte)
  | rolZpx (b : Byte)
  | andAby (w : Word)
  | andAbx (w : Word)
  | rolAbx (w : Word)
  | eorIzx (b : Byte)
  | eorZp (b : Byte)
  | lsrZp (b : Byte)
  | eorImm (v : Byte)
  | jmpAbs (w : Word)
  | eorAbs (w : Word)
  | lsrAbs (w : Word)
  | bvc (b : Byte)
  | eorIzy (b : Byte)
  | eorZpx (b : Byte)
  | lsrZpx (b : Byte)
  | eorAby (w : Word)
  | eorAbx (w : Word)
  | lsrAbx (w : Word)
  | adcIzx (b : Byte)
  | adcZp (b : Byte)
  | rorZp (b : Byte)
  | adcImm (v : Byte)
  | jmpInd (w : Word)
  | adcAbs (w : Word)
  | rorAbs (w : Word)
  | bvs (b : Byte)
  | adcIzy (b : Byte)
  | adcZpx (b : Byte)
  | rorZpx (b : Byte)
  | adcAby (w : Word)
  | adcAbx (w : Word)
  | rorAbx (w : Word)
  | staIzx (b : Byte)
  | styZp (b : Byte)
  | staZp (b : Byte)
  | stxZp (b : Byte)
  | styAbs (w : Word)
  | staAbs (w : Word)
  | stxAbs (w : Word)
  | bcc (b : Byte)
  | staIzy (b : Byte)
  | styZpx (b : Byte)
  | staZpx (b : Byte)
  | stxZpy (b : Byte)
  | staAby (w : Word)
  | staAbx (w : Word)
  | ldyImm (v : Byte)
  | ldaIzx (b : Byte)
  | ldxImm (v : Byte)
  | ldyZp (b : Byte)
  | ldaZp (b : Byte)
  | ldxZp (b : Byte)
  | ldaImm (v : Byte)
  | ldyAbs (w : Word)
  | ldaAbs (w : Word)
  | ldxAbs (w : Word)
  | bcs (b : Byte)
  | ldaIzy (b : Byte)
  | ldyZpx (b : Byte)
  | ldaZpx (b : Byte)
  | ldxZpy (b : Byte)
  | ldaAby (w : Word)
  | ldyAbx (w : Word)
  | ldaAbx (w : Word)
  | ldxAby (w : Word)
  | cpyImm (v : Byte)
  | cmpIzx (b : Byte)
  | cpyZp (b : Byte)
  | cmpZp (b : Byte)
  | decZp (b : Byte)
  | cmpImm (v : Byte)
  | cpyAbs (w : Word)
  | cmpAbs (w : Word)
  | decAbs (w : Word)
  | bne (b : Byte)
  | cmpIzy (b : Byte)
  | cmpZpx (b : Byte)
  | decZpx (b : Byte)
  | cmpAby (w : Word)
  | cmpAbx (w : Word)
  | decAbx (w : Word)
  | cpxImm (v : Byte)
  | sbcIzx (b : Byte)
  | cpxZp (b : Byte)
  | sbcZp (b : Byte)
  | incZp (b : Byte)
  | sbcImm (v : Byte)
  | cpxAbs (w : Word)
  | sbcAbs (w : Word)
  | incAbs (w : Word)
  | beq (b : Byte)
  | sbcIzy (b : Byte)
  | sbcZpx (b : Byte)
  | incZpx (b : Byte)
  | sbcAby (w : Word)
  | sbcAbx (w : Word)
  | incAbx (w : Word)
  | brk
  | unassigned02
  | unassigned03
  | unassigned04
  | unassigned07
  | php
  | aslAcc
  | unassigned0B
  | unassigned0C
  | unassigned0F
  | unassigned12
  | unassigned13
  | unassigned14
  | unassigned17
  | clc
  | unassigned1A
  | unassigned1B
  | unassigned1C
  | unassigned1F
  | unassigned22
  | unassigned23
  | unassigned27
  | plp
  | rolAcc
  | unassigned2B
  | unassigned2F
  | unassigned32
  | unassigned33
  | unassigned34
  | unassigned37
  | sec
  | unassigned3A
  | unassigned3B
  | unassigned3C
  | unassigned3F
  | rti
  | unassigned42
  | unassigned43
  | unassigned44
  | unassigned47
  | pha
  | lsrAcc
  | unassigned4B
  | unassigned4F
  | unassigned52
  | unassigned53
  | unassigned54
  | unassigned57
  | cli
  | unassigned5A
  | unassigned5B
  | unassigned5C
  | unassigned5F
  | rts
  | unassigned62
  | unassigned63
  | unassigned64
  | unassigned67
  | pla
  | rorAcc
  | unassigned6B
  | unassigned6F
  | unassigned72
  | unassigned73
  | unassigned74
  | unassigned77
  | sei
  | unassigned7A
  | unassigned7B
  | unassigned7C
  | unassigned7F
  | unassigned80
  | unassigned82
  | unassigned83
  | unassigned87
  | dey
  | unassigned89
  | txa
  | unassigned8B
  | unassigned8F
  | unassigned92
  | unassigned93
  | unassigned97
  | tya
  | txs
  | unassigned9B
  | unassigned9C
  | unassigned9E
  | unassigned9F
  | unassignedA3
  | unassignedA7
  | tay
  | tax
  | unassignedAB
  | unassignedAF
  | unassignedB2
  | unassignedB3
  | unassignedB7
  | clv
  | tsx
  | unassignedBB
  | unassignedBF
  | unassignedC2
  | unassignedC3
  | unassignedC7
  | iny
  | dex
  | unassignedCB
  | unassignedCF
  | unassignedD2
  | unassignedD3
  | unassignedD4
  | unassignedD7
  | cld
  | unassignedDA
  | unassignedDB
  | unassignedDC
  | unassignedDF
  | unassignedE2
  | unassignedE3
  | unassignedE7
  | inx
  | nop
  | unassignedEB
  | unassignedEF
  | unassignedF2
  | unassignedF3
  | unassignedF4
  | unassignedF7
  | sed
  | unassignedFA
  | unassignedFB
  | unassignedFC
  | unassignedFF
deriving DecidableEq, Repr

/-- The handler of an instruction's row (R86, R251). -/
def Instr.handler : Instr → Handler
  | .oraIzx _ => .ora
  | .oraZp _ => .ora
  | .aslZp _ => .asl
  | .oraImm _ => .ora
  | .oraAbs _ => .ora
  | .aslAbs _ => .asl
  | .bpl _ => .bpl
  | .oraIzy _ => .ora
  | .oraZpx _ => .ora
  | .aslZpx _ => .asl
  | .oraAby _ => .ora
  | .oraAbx _ => .ora
  | .aslAbx _ => .asl
  | .jsr _ => .jsr
  | .andIzx _ => .and
  | .bitZp _ => .bit
  | .andZp _ => .and
  | .rolZp _ => .rol
  | .andImm _ => .and
  | .bitAbs _ => .bit
  | .andAbs _ => .and
  | .rolAbs _ => .rol
  | .bmi _ => .bmi
  | .andIzy _ => .and
  | .andZpx _ => .and
  | .rolZpx _ => .rol
  | .andAby _ => .and
  | .andAbx _ => .and
  | .rolAbx _ => .rol
  | .eorIzx _ => .eor
  | .eorZp _ => .eor
  | .lsrZp _ => .lsr
  | .eorImm _ => .eor
  | .jmpAbs _ => .jmp
  | .eorAbs _ => .eor
  | .lsrAbs _ => .lsr
  | .bvc _ => .bvc
  | .eorIzy _ => .eor
  | .eorZpx _ => .eor
  | .lsrZpx _ => .lsr
  | .eorAby _ => .eor
  | .eorAbx _ => .eor
  | .lsrAbx _ => .lsr
  | .adcIzx _ => .adc
  | .adcZp _ => .adc
  | .rorZp _ => .ror
  | .adcImm _ => .adc
  | .jmpInd _ => .jmp
  | .adcAbs _ => .adc
  | .rorAbs _ => .ror
  | .bvs _ => .bvs
  | .adcIzy _ => .adc
  | .adcZpx _ => .adc
  | .rorZpx _ => .ror
  | .adcAby _ => .adc
  | .adcAbx _ => .adc
  | .rorAbx _ => .ror
  | .staIzx _ => .sta
  | .styZp _ => .sty
  | .staZp _ => .sta
  | .stxZp _ => .stx
  | .styAbs _ => .sty
  | .staAbs _ => .sta
  | .stxAbs _ => .stx
  | .bcc _ => .bcc
  | .staIzy _ => .sta
  | .styZpx _ => .sty
  | .staZpx _ => .sta
  | .stxZpy _ => .stx
  | .staAby _ => .sta
  | .staAbx _ => .sta
  | .ldyImm _ => .ldy
  | .ldaIzx _ => .lda
  | .ldxImm _ => .ldx
  | .ldyZp _ => .ldy
  | .ldaZp _ => .lda
  | .ldxZp _ => .ldx
  | .ldaImm _ => .lda
  | .ldyAbs _ => .ldy
  | .ldaAbs _ => .lda
  | .ldxAbs _ => .ldx
  | .bcs _ => .bcs
  | .ldaIzy _ => .lda
  | .ldyZpx _ => .ldy
  | .ldaZpx _ => .lda
  | .ldxZpy _ => .ldx
  | .ldaAby _ => .lda
  | .ldyAbx _ => .ldy
  | .ldaAbx _ => .lda
  | .ldxAby _ => .ldx
  | .cpyImm _ => .cpy
  | .cmpIzx _ => .cmp
  | .cpyZp _ => .cpy
  | .cmpZp _ => .cmp
  | .decZp _ => .dec
  | .cmpImm _ => .cmp
  | .cpyAbs _ => .cpy
  | .cmpAbs _ => .cmp
  | .decAbs _ => .dec
  | .bne _ => .bne
  | .cmpIzy _ => .cmp
  | .cmpZpx _ => .cmp
  | .decZpx _ => .dec
  | .cmpAby _ => .cmp
  | .cmpAbx _ => .cmp
  | .decAbx _ => .dec
  | .cpxImm _ => .cpx
  | .sbcIzx _ => .sbc
  | .cpxZp _ => .cpx
  | .sbcZp _ => .sbc
  | .incZp _ => .inc
  | .sbcImm _ => .sbc
  | .cpxAbs _ => .cpx
  | .sbcAbs _ => .sbc
  | .incAbs _ => .inc
  | .beq _ => .beq
  | .sbcIzy _ => .sbc
  | .sbcZpx _ => .sbc
  | .incZpx _ => .inc
  | .sbcAby _ => .sbc
  | .sbcAbx _ => .sbc
  | .incAbx _ => .inc
  | .brk => .brk
  | .unassigned02 => .xxx
  | .unassigned03 => .xxx
  | .unassigned04 => .nop
  | .unassigned07 => .xxx
  | .php => .php
  | .aslAcc => .asl
  | .unassigned0B => .xxx
  | .unassigned0C => .nop
  | .unassigned0F => .xxx
  | .unassigned12 => .xxx
  | .unassigned13 => .xxx
  | .unassigned14 => .nop
  | .unassigned17 => .xxx
  | .clc => .clc
  | .unassigned1A => .nop
  | .unassigned1B => .xxx
  | .unassigned1C => .nop
  | .unassigned1F => .xxx
  | .unassigned22 => .xxx
  | .unassigned23 => .xxx
  | .unassigned27 => .xxx
  | .plp => .plp
  | .rolAcc => .rol
  | .unassigned2B => .xxx
  | .unassigned2F => .xxx
  | .unassigned32 => .xxx
  | .unassigned33 => .xxx
  | .unassigned34 => .nop
  | .unassigned37 => .xxx
  | .sec => .sec
  | .unassigned3A => .nop
  | .unassigned3B => .xxx
  | .unassigned3C => .nop
  | .unassigned3F => .xxx
  | .rti => .rti
  | .unassigned42 => .xxx
  | .unassigned43 => .xxx
  | .unassigned44 => .nop
  | .unassigned47 => .xxx
  | .pha => .pha
  | .lsrAcc => .lsr
  | .unassigned4B => .xxx
  | .unassigned4F => .xxx
  | .unassigned52 => .xxx
  | .unassigned53 => .xxx
  | .unassigned54 => .nop
  | .unassigned57 => .xxx
  | .cli => .cli
  | .unassigned5A => .nop
  | .unassigned5B => .xxx
  | .unassigned5C => .nop
  | .unassigned5F => .xxx
  | .rts => .rts
  | .unassigned62 => .xxx
  | .unassigned63 => .xxx
  | .unassigned64 => .nop
  | .unassigned67 => .xxx
  | .pla => .pla
  | .rorAcc => .ror
  | .unassigned6B => .xxx
  | .unassigned6F => .xxx
  | .unassigned72 => .xxx
  | .unassigned73 => .xxx
  | .unassigned74 => .nop
  | .unassigned77 => .xxx
  | .sei => .sei
  | .unassigned7A => .nop
  | .unassigned7B => .xxx
  | .unassigned7C => .nop
  | .unassigned7F => .xxx
  | .unassigned80 => .nop
  | .unassigned82 => .nop
  | .unassigned83 => .xxx
  | .unassigned87 => .xxx
  | .dey => .dey
  | .unassigned89 => .nop
  | .txa => .txa
  | .unassigned8B => .xxx
  | .unassigned8F => .xxx
  | .unassigned92 => .xxx
  | .unassigned93 => .xxx
  | .unassigned97 => .xxx
  | .tya => .tya
  | .txs => .txs
  | .unassigned9B => .xxx
  | .unassigned9C => .nop
  | .unassigned9E => .xxx
  | .unassigned9F => .xxx
  | .unassignedA3 => .xxx
  | .unassignedA7 => .xxx
  | .tay => .tay
  | .tax => .tax
  | .unassignedAB => .xxx
  | .unassignedAF => .xxx
  | .unassignedB2 => .xxx
  | .unassignedB3 => .xxx
  | .unassignedB7 => .xxx
  | .clv => .clv
  | .tsx => .tsx
  | .unassignedBB => .xxx
  | .unassignedBF => .xxx
  | .unassignedC2 => .nop
  | .unassignedC3 => .xxx
  | .unassignedC7 => .xxx
  | .iny => .iny
  | .dex => .dex
  | .unassignedCB => .xxx
  | .unassignedCF => .xxx
  | .unassignedD2 => .xxx
  | .unassignedD3 => .xxx
  | .unassignedD4 => .nop
  | .unassignedD7 => .xxx
  | .cld => .cld
  | .unassignedDA => .nop
  | .unassignedDB => .xxx
  | .unassignedDC => .nop
  | .unassignedDF => .xxx
  | .unassignedE2 => .nop
  | .unassignedE3 => .xxx
  | .unassignedE7 => .xxx
  | .inx => .inx
  | .nop => .nop
  | .unassignedEB => .xxx
  | .unassignedEF => .xxx
  | .unassignedF2 => .xxx
  | .unassignedF3 => .xxx
  | .unassignedF4 => .nop
  | .unassignedF7 => .xxx
  | .sed => .sed
  | .unassignedFA => .nop
  | .unassignedFB => .xxx
  | .unassignedFC => .nop
  | .unassignedFF => .xxx

/-- The operand of an instruction. -/
def Instr.operand : Instr → Operand
  | .oraIzx b => .izx b
  | .oraZp b => .zp b
  | .aslZp b => .zp b
  | .oraImm v => .imm v
  | .oraAbs w => .abs w
  | .aslAbs w => .abs w
  | .bpl b => .rel b
  | .oraIzy b => .izy b
  | .oraZpx b => .zpx b
  | .aslZpx b => .zpx b
  | .oraAby w => .aby w
  | .oraAbx w => .abx w
  | .aslAbx w => .abx w
  | .jsr w => .abs w
  | .andIzx b => .izx b
  | .bitZp b => .zp b
  | .andZp b => .zp b
  | .rolZp b => .zp b
  | .andImm v => .imm v
  | .bitAbs w => .abs w
  | .andAbs w => .abs w
  | .rolAbs w => .abs w
  | .bmi b => .rel b
  | .andIzy b => .izy b
  | .andZpx b => .zpx b
  | .rolZpx b => .zpx b
  | .andAby w => .aby w
  | .andAbx w => .abx w
  | .rolAbx w => .abx w
  | .eorIzx b => .izx b
  | .eorZp b => .zp b
  | .lsrZp b => .zp b
  | .eorImm v => .imm v
  | .jmpAbs w => .abs w
  | .eorAbs w => .abs w
  | .lsrAbs w => .abs w
  | .bvc b => .rel b
  | .eorIzy b => .izy b
  | .eorZpx b => .zpx b
  | .lsrZpx b => .zpx b
  | .eorAby w => .aby w
  | .eorAbx w => .abx w
  | .lsrAbx w => .abx w
  | .adcIzx b => .izx b
  | .adcZp b => .zp b
  | .rorZp b => .zp b
  | .adcImm v => .imm v
  | .jmpInd w => .ind w
  | .adcAbs w => .abs w
  | .rorAbs w => .abs w
  | .bvs b => .rel b
  | .adcIzy b => .izy b
  | .adcZpx b => .zpx b
  | .rorZpx b => .zpx b
  | .adcAby w => .aby w
  | .adcAbx w => .abx w
  | .rorAbx w => .abx w
  | .staIzx b => .izx b
  | .styZp b => .zp b
  | .staZp b => .zp b
  | .stxZp b => .zp b
  | .styAbs w => .abs w
  | .staAbs w => .abs w
  | .stxAbs w => .abs w
  | .bcc b => .rel b
  | .staIzy b => .izy b
  | .styZpx b => .zpx b
  | .staZpx b => .zpx b
  | .stxZpy b => .zpy b
  | .staAby w => .aby w
  | .staAbx w => .abx w
  | .ldyImm v => .imm v
  | .ldaIzx b => .izx b
  | .ldxImm v => .imm v
  | .ldyZp b => .zp b
  | .ldaZp b => .zp b
  | .ldxZp b => .zp b
  | .ldaImm v => .imm v
  | .ldyAbs w => .abs w
  | .ldaAbs w => .abs w
  | .ldxAbs w => .abs w
  | .bcs b => .rel b
  | .ldaIzy b => .izy b
  | .ldyZpx b => .zpx b
  | .ldaZpx b => .zpx b
  | .ldxZpy b => .zpy b
  | .ldaAby w => .aby w
  | .ldyAbx w => .abx w
  | .ldaAbx w => .abx w
  | .ldxAby w => .aby w
  | .cpyImm v => .imm v
  | .cmpIzx b => .izx b
  | .cpyZp b => .zp b
  | .cmpZp b => .zp b
  | .decZp b => .zp b
  | .cmpImm v => .imm v
  | .cpyAbs w => .abs w
  | .cmpAbs w => .abs w
  | .decAbs w => .abs w
  | .bne b => .rel b
  | .cmpIzy b => .izy b
  | .cmpZpx b => .zpx b
  | .decZpx b => .zpx b
  | .cmpAby w => .aby w
  | .cmpAbx w => .abx w
  | .decAbx w => .abx w
  | .cpxImm v => .imm v
  | .sbcIzx b => .izx b
  | .cpxZp b => .zp b
  | .sbcZp b => .zp b
  | .incZp b => .zp b
  | .sbcImm v => .imm v
  | .cpxAbs w => .abs w
  | .sbcAbs w => .abs w
  | .incAbs w => .abs w
  | .beq b => .rel b
  | .sbcIzy b => .izy b
  | .sbcZpx b => .zpx b
  | .incZpx b => .zpx b
  | .sbcAby w => .aby w
  | .sbcAbx w => .abx w
  | .incAbx w => .abx w
  | .brk => .skipped
  | .unassigned02 => .imp
  | .unassigned03 => .imp
  | .unassigned04 => .imp
  | .unassigned07 => .imp
  | .php => .imp
  | .aslAcc => .imp
  | .unassigned0B => .imp
  | .unassigned0C => .imp
  | .unassigned0F => .imp
  | .unassigned12 => .imp
  | .unassigned13 => .imp
  | .unassigned14 => .imp
  | .unassigned17 => .imp
  | .clc => .imp
  | .unassigned1A => .imp
  | .unassigned1B => .imp
  | .unassigned1C => .imp
  | .unassigned1F => .imp
  | .unassigned22 => .imp
  | .unassigned23 => .imp
  | .unassigned27 => .imp
  | .plp => .imp
  | .rolAcc => .imp
  | .unassigned2B => .imp
  | .unassigned2F => .imp
  | .unassigned32 => .imp
  | .unassigned33 => .imp
  | .unassigned34 => .imp
  | .unassigned37 => .imp
  | .sec => .imp
  | .unassigned3A => .imp
  | .unassigned3B => .imp
  | .unassigned3C => .imp
  | .unassigned3F => .imp
  | .rti => .imp
  | .unassigned42 => .imp
  | .unassigned43 => .imp
  | .unassigned44 => .imp
  | .unassigned47 => .imp
  | .pha => .imp
  | .lsrAcc => .imp
  | .unassigned4B => .imp
  | .unassigned4F => .imp
  | .unassigned52 => .imp
  | .unassigned53 => .imp
  | .unassigned54 => .imp
  | .unassigned57 => .imp
  | .cli => .imp
  | .unassigned5A => .imp
  | .unassigned5B => .imp
  | .unassigned5C => .imp
  | .unassigned5F => .imp
  | .rts => .imp
  | .unassigned62 => .imp
  | .unassigned63 => .imp
  | .unassigned64 => .imp
  | .unassigned67 => .imp
  | .pla => .imp
  | .rorAcc => .imp
  | .unassigned6B => .imp
  | .unassigned6F => .imp
  | .unassigned72 => .imp
  | .unassigned73 => .imp
  | .unassigned74 => .imp
  | .unassigned77 => .imp
  | .sei => .imp
  | .unassigned7A => .imp
  | .unassigned7B => .imp
  | .unassigned7C => .imp
  | .unassigned7F => .imp
  | .unassigned80 => .imp
  | .unassigned82 => .imp
  | .unassigned83 => .imp
  | .unassigned87 => .imp
  | .dey => .imp
  | .unassigned89 => .imp
  | .txa => .imp
  | .unassigned8B => .imp
  | .unassigned8F => .imp
  | .unassigned92 => .imp
  | .unassigned93 => .imp
  | .unassigned97 => .imp
  | .tya => .imp
  | .txs => .imp
  | .unassigned9B => .imp
  | .unassigned9C => .imp
  | .unassigned9E => .imp
  | .unassigned9F => .imp
  | .unassignedA3 => .imp
  | .unassignedA7 => .imp
  | .tay => .imp
  | .tax => .imp
  | .unassignedAB => .imp
  | .unassignedAF => .imp
  | .unassignedB2 => .imp
  | .unassignedB3 => .imp
  | .unassignedB7 => .imp
  | .clv => .imp
  | .tsx => .imp
  | .unassignedBB => .imp
  | .unassignedBF => .imp
  | .unassignedC2 => .imp
  | .unassignedC3 => .imp
  | .unassignedC7 => .imp
  | .iny => .imp
  | .dex => .imp
  | .unassignedCB => .imp
  | .unassignedCF => .imp
  | .unassignedD2 => .imp
  | .unassignedD3 => .imp
  | .unassignedD4 => .imp
  | .unassignedD7 => .imp
  | .cld => .imp
  | .unassignedDA => .imp
  | .unassignedDB => .imp
  | .unassignedDC => .imp
  | .unassignedDF => .imp
  | .unassignedE2 => .imp
  | .unassignedE3 => .imp
  | .unassignedE7 => .imp
  | .inx => .imp
  | .nop => .imp
  | .unassignedEB => .imp
  | .unassignedEF => .imp
  | .unassignedF2 => .imp
  | .unassignedF3 => .imp
  | .unassignedF4 => .imp
  | .unassignedF7 => .imp
  | .sed => .imp
  | .unassignedFA => .imp
  | .unassignedFB => .imp
  | .unassignedFC => .imp
  | .unassignedFF => .imp

end Sys2Proof
end

