-- ==== Sys2Proof/WellFormed.lean ====
section
/-! DEFINITION. Well-formedness: a handler with a mode that R86 lists for it. -/

namespace Sys2Proof

/-- The modes R86 lists for each mnemonic (ACC is IMP, R92). `xxx` and the NOP variants of R251 use IMP, as NOP does. -/
def admits (h : Handler) (m : Mode) : Bool :=
  match h with
  | .adc | .and | .cmp | .eor | .lda | .ora | .sbc =>
    [.abs, .abx, .aby, .imm, .izx, .izy, .zp, .zpx].contains m
  | .asl | .lsr | .rol | .ror => [.abs, .abx, .imp, .zp, .zpx].contains m
  | .bcc | .bcs | .beq | .bmi | .bne | .bpl | .bvc | .bvs =>
    [.rel].contains m
  | .bit => [.abs, .zp].contains m
  | .brk => [.imm].contains m
  | .clc | .cld | .cli | .clv | .dex | .dey | .inx | .iny | .nop | .pha | .php | .pla | .plp | .rti =>
    [.imp].contains m
  | .rts | .sec | .sed | .sei | .tax | .tay | .tsx | .txa | .txs | .tya | .xxx =>
    [.imp].contains m
  | .cpx | .cpy => [.abs, .imm, .zp].contains m
  | .dec | .inc => [.abs, .abx, .zp, .zpx].contains m
  | .jmp => [.abs, .ind].contains m
  | .jsr => [.abs].contains m
  | .ldx => [.abs, .aby, .imm, .zp, .zpy].contains m
  | .ldy => [.abs, .abx, .imm, .zp, .zpx].contains m
  | .sta => [.abs, .abx, .aby, .izx, .izy, .zp, .zpx].contains m
  | .stx => [.abs, .zp, .zpy].contains m
  | .sty => [.abs, .zp, .zpx].contains m

/-- An instruction as an assembler writes it: a handler and an operand (R90). -/
structure Form where
  handler : Handler
  operand : Operand
deriving DecidableEq, Repr

/-- The two checks. The handler admits the mode (R86). BRK, and only BRK, has the skipped padding byte (R80, R184). -/
def Form.wellFormed (f : Form) : Bool :=
  admits f.handler f.operand.mode && ((f.handler == .brk) == (f.operand == .skipped))

/-- The form of an instruction. -/
def Instr.form (i : Instr) : Form := { handler := i.handler, operand := i.operand }

/-- Every operand field of `Instr` has exactly the width of its encoding and no value of one is reserved (R88), so this
holds of every instruction: `Laws.wellFormed_all`. -/
def Instr.wellFormed (i : Instr) : Bool := i.form.wellFormed

end Sys2Proof
end

