-- ==== Sys2Proof/Decode.lean ====
section
/-! DEFINITION. The dispatch table (R83 to R87), the decoder and the encoder (R80 to R82), and the byte-order and
sign-extension helpers they and the machine use (R6). -/

namespace Sys2Proof

/-! Bytes and words (R6). -/

/-- `hi:lo`, the concatenation of two bytes. -/
def joinBytes (hi lo : Byte) : Word := hi ++ lo

/-- `addr[15:8]`, the page of an address. -/
def highByte (w : Word) : Byte := w.extractLsb' 8 8

/-- `addr[7:0]`. -/
def lowByte (w : Word) : Byte := w.extractLsb' 0 8

/-- `sext_16(b)`. -/
def signExtend (b : Byte) : Word := b.signExtend 16

/-- `zext_16(b)`, a page-0 address. -/
def zeroPage (b : Byte) : Word := b.setWidth 16

/-! The dispatch table. -/

/-- An entry of the dispatch table (R83). `assigned` is false for the 105 opcodes of R87, whose diagnostic mnemonic is
"???" (90 C14). -/
structure Entry where
  handler : Handler
  mode : Mode
  base : Byte
  assigned : Bool
deriving DecidableEq, Repr

/-- The operand bytes a mode has (R80). -/
def Mode.operandBytes : Mode → Nat
  | .imp => 0
  | .imm | .zp | .zpx | .zpy | .rel | .izx | .izy => 1
  | .abs | .abx | .aby | .ind => 2

/-- The length of an entry's instruction in bytes (R80, R81). -/
def Entry.length (e : Entry) : Nat := 1 + e.mode.operandBytes

/-- How many operand bytes the machine reads: all of them, but BRK's padding byte is "skipped and never read" (R80,
R184). -/
def Entry.bytesRead (e : Entry) : Nat :=
  if e.handler = .brk then 0 else e.mode.operandBytes

/-- Row 0x of the map of R85. -/
def tableRow0 : List Entry := [
  ⟨.brk, .imm, 7#8, true⟩,
  ⟨.ora, .izx, 6#8, true⟩,
  ⟨.xxx, .imp, 2#8, false⟩,
  ⟨.xxx, .imp, 8#8, false⟩,
  ⟨.nop, .imp, 3#8, false⟩,
  ⟨.ora, .zp, 3#8, true⟩,
  ⟨.asl, .zp, 5#8, true⟩,
  ⟨.xxx, .imp, 5#8, false⟩,
  ⟨.php, .imp, 3#8, true⟩,
  ⟨.ora, .imm, 2#8, true⟩,
  ⟨.asl, .imp, 2#8, true⟩,
  ⟨.xxx, .imp, 2#8, false⟩,
  ⟨.nop, .imp, 4#8, false⟩,
  ⟨.ora, .abs, 4#8, true⟩,
  ⟨.asl, .abs, 6#8, true⟩,
  ⟨.xxx, .imp, 6#8, false⟩]

/-- Row 1x of the map of R85. -/
def tableRow1 : List Entry := [
  ⟨.bpl, .rel, 2#8, true⟩,
  ⟨.ora, .izy, 5#8, true⟩,
  ⟨.xxx, .imp, 2#8, false⟩,
  ⟨.xxx, .imp, 8#8, false⟩,
  ⟨.nop, .imp, 4#8, false⟩,
  ⟨.ora, .zpx, 4#8, true⟩,
  ⟨.asl, .zpx, 6#8, true⟩,
  ⟨.xxx, .imp, 6#8, false⟩,
  ⟨.clc, .imp, 2#8, true⟩,
  ⟨.ora, .aby, 4#8, true⟩,
  ⟨.nop, .imp, 2#8, false⟩,
  ⟨.xxx, .imp, 7#8, false⟩,
  ⟨.nop, .imp, 4#8, false⟩,
  ⟨.ora, .abx, 4#8, true⟩,
  ⟨.asl, .abx, 7#8, true⟩,
  ⟨.xxx, .imp, 7#8, false⟩]

/-- Row 2x of the map of R85. -/
def tableRow2 : List Entry := [
  ⟨.jsr, .abs, 6#8, true⟩,
  ⟨.and, .izx, 6#8, true⟩,
  ⟨.xxx, .imp, 2#8, false⟩,
  ⟨.xxx, .imp, 8#8, false⟩,
  ⟨.bit, .zp, 3#8, true⟩,
  ⟨.and, .zp, 3#8, true⟩,
  ⟨.rol, .zp, 5#8, true⟩,
  ⟨.xxx, .imp, 5#8, false⟩,
  ⟨.plp, .imp, 4#8, true⟩,
  ⟨.and, .imm, 2#8, true⟩,
  ⟨.rol, .imp, 2#8, true⟩,
  ⟨.xxx, .imp, 2#8, false⟩,
  ⟨.bit, .abs, 4#8, true⟩,
  ⟨.and, .abs, 4#8, true⟩,
  ⟨.rol, .abs, 6#8, true⟩,
  ⟨.xxx, .imp, 6#8, false⟩]

/-- Row 3x of the map of R85. -/
def tableRow3 : List Entry := [
  ⟨.bmi, .rel, 2#8, true⟩,
  ⟨.and, .izy, 5#8, true⟩,
  ⟨.xxx, .imp, 2#8, false⟩,
  ⟨.xxx, .imp, 8#8, false⟩,
  ⟨.nop, .imp, 4#8, false⟩,
  ⟨.and, .zpx, 4#8, true⟩,
  ⟨.rol, .zpx, 6#8, true⟩,
  ⟨.xxx, .imp, 6#8, false⟩,
  ⟨.sec, .imp, 2#8, true⟩,
  ⟨.and, .aby, 4#8, true⟩,
  ⟨.nop, .imp, 2#8, false⟩,
  ⟨.xxx, .imp, 7#8, false⟩,
  ⟨.nop, .imp, 4#8, false⟩,
  ⟨.and, .abx, 4#8, true⟩,
  ⟨.rol, .abx, 7#8, true⟩,
  ⟨.xxx, .imp, 7#8, false⟩]

/-- Row 4x of the map of R85. -/
def tableRow4 : List Entry := [
  ⟨.rti, .imp, 6#8, true⟩,
  ⟨.eor, .izx, 6#8, true⟩,
  ⟨.xxx, .imp, 2#8, false⟩,
  ⟨.xxx, .imp, 8#8, false⟩,
  ⟨.nop, .imp, 3#8, false⟩,
  ⟨.eor, .zp, 3#8, true⟩,
  ⟨.lsr, .zp, 5#8, true⟩,
  ⟨.xxx, .imp, 5#8, false⟩,
  ⟨.pha, .imp, 3#8, true⟩,
  ⟨.eor, .imm, 2#8, true⟩,
  ⟨.lsr, .imp, 2#8, true⟩,
  ⟨.xxx, .imp, 2#8, false⟩,
  ⟨.jmp, .abs, 3#8, true⟩,
  ⟨.eor, .abs, 4#8, true⟩,
  ⟨.lsr, .abs, 6#8, true⟩,
  ⟨.xxx, .imp, 6#8, false⟩]

/-- Row 5x of the map of R85. -/
def tableRow5 : List Entry := [
  ⟨.bvc, .rel, 2#8, true⟩,
  ⟨.eor, .izy, 5#8, true⟩,
  ⟨.xxx, .imp, 2#8, false⟩,
  ⟨.xxx, .imp, 8#8, false⟩,
  ⟨.nop, .imp, 4#8, false⟩,
  ⟨.eor, .zpx, 4#8, true⟩,
  ⟨.lsr, .zpx, 6#8, true⟩,
  ⟨.xxx, .imp, 6#8, false⟩,
  ⟨.cli, .imp, 2#8, true⟩,
  ⟨.eor, .aby, 4#8, true⟩,
  ⟨.nop, .imp, 2#8, false⟩,
  ⟨.xxx, .imp, 7#8, false⟩,
  ⟨.nop, .imp, 4#8, false⟩,
  ⟨.eor, .abx, 4#8, true⟩,
  ⟨.lsr, .abx, 7#8, true⟩,
  ⟨.xxx, .imp, 7#8, false⟩]

/-- Row 6x of the map of R85. -/
def tableRow6 : List Entry := [
  ⟨.rts, .imp, 6#8, true⟩,
  ⟨.adc, .izx, 6#8, true⟩,
  ⟨.xxx, .imp, 2#8, false⟩,
  ⟨.xxx, .imp, 8#8, false⟩,
  ⟨.nop, .imp, 3#8, false⟩,
  ⟨.adc, .zp, 3#8, true⟩,
  ⟨.ror, .zp, 5#8, true⟩,
  ⟨.xxx, .imp, 5#8, false⟩,
  ⟨.pla, .imp, 4#8, true⟩,
  ⟨.adc, .imm, 2#8, true⟩,
  ⟨.ror, .imp, 2#8, true⟩,
  ⟨.xxx, .imp, 2#8, false⟩,
  ⟨.jmp, .ind, 5#8, true⟩,
  ⟨.adc, .abs, 4#8, true⟩,
  ⟨.ror, .abs, 6#8, true⟩,
  ⟨.xxx, .imp, 6#8, false⟩]

/-- Row 7x of the map of R85. -/
def tableRow7 : List Entry := [
  ⟨.bvs, .rel, 2#8, true⟩,
  ⟨.adc, .izy, 5#8, true⟩,
  ⟨.xxx, .imp, 2#8, false⟩,
  ⟨.xxx, .imp, 8#8, false⟩,
  ⟨.nop, .imp, 4#8, false⟩,
  ⟨.adc, .zpx, 4#8, true⟩,
  ⟨.ror, .zpx, 6#8, true⟩,
  ⟨.xxx, .imp, 6#8, false⟩,
  ⟨.sei, .imp, 2#8, true⟩,
  ⟨.adc, .aby, 4#8, true⟩,
  ⟨.nop, .imp, 2#8, false⟩,
  ⟨.xxx, .imp, 7#8, false⟩,
  ⟨.nop, .imp, 4#8, false⟩,
  ⟨.adc, .abx, 4#8, true⟩,
  ⟨.ror, .abx, 7#8, true⟩,
  ⟨.xxx, .imp, 7#8, false⟩]

/-- Row 8x of the map of R85. -/
def tableRow8 : List Entry := [
  ⟨.nop, .imp, 2#8, false⟩,
  ⟨.sta, .izx, 6#8, true⟩,
  ⟨.nop, .imp, 2#8, false⟩,
  ⟨.xxx, .imp, 6#8, false⟩,
  ⟨.sty, .zp, 3#8, true⟩,
  ⟨.sta, .zp, 3#8, true⟩,
  ⟨.stx, .zp, 3#8, true⟩,
  ⟨.xxx, .imp, 3#8, false⟩,
  ⟨.dey, .imp, 2#8, true⟩,
  ⟨.nop, .imp, 2#8, false⟩,
  ⟨.txa, .imp, 2#8, true⟩,
  ⟨.xxx, .imp, 2#8, false⟩,
  ⟨.sty, .abs, 4#8, true⟩,
  ⟨.sta, .abs, 4#8, true⟩,
  ⟨.stx, .abs, 4#8, true⟩,
  ⟨.xxx, .imp, 4#8, false⟩]

/-- Row 9x of the map of R85. -/
def tableRow9 : List Entry := [
  ⟨.bcc, .rel, 2#8, true⟩,
  ⟨.sta, .izy, 6#8, true⟩,
  ⟨.xxx, .imp, 2#8, false⟩,
  ⟨.xxx, .imp, 6#8, false⟩,
  ⟨.sty, .zpx, 4#8, true⟩,
  ⟨.sta, .zpx, 4#8, true⟩,
  ⟨.stx, .zpy, 4#8, true⟩,
  ⟨.xxx, .imp, 4#8, false⟩,
  ⟨.tya, .imp, 2#8, true⟩,
  ⟨.sta, .aby, 5#8, true⟩,
  ⟨.txs, .imp, 2#8, true⟩,
  ⟨.xxx, .imp, 5#8, false⟩,
  ⟨.nop, .imp, 5#8, false⟩,
  ⟨.sta, .abx, 5#8, true⟩,
  ⟨.xxx, .imp, 5#8, false⟩,
  ⟨.xxx, .imp, 5#8, false⟩]

/-- Row Ax of the map of R85. -/
def tableRowA : List Entry := [
  ⟨.ldy, .imm, 2#8, true⟩,
  ⟨.lda, .izx, 6#8, true⟩,
  ⟨.ldx, .imm, 2#8, true⟩,
  ⟨.xxx, .imp, 6#8, false⟩,
  ⟨.ldy, .zp, 3#8, true⟩,
  ⟨.lda, .zp, 3#8, true⟩,
  ⟨.ldx, .zp, 3#8, true⟩,
  ⟨.xxx, .imp, 3#8, false⟩,
  ⟨.tay, .imp, 2#8, true⟩,
  ⟨.lda, .imm, 2#8, true⟩,
  ⟨.tax, .imp, 2#8, true⟩,
  ⟨.xxx, .imp, 2#8, false⟩,
  ⟨.ldy, .abs, 4#8, true⟩,
  ⟨.lda, .abs, 4#8, true⟩,
  ⟨.ldx, .abs, 4#8, true⟩,
  ⟨.xxx, .imp, 4#8, false⟩]

/-- Row Bx of the map of R85. -/
def tableRowB : List Entry := [
  ⟨.bcs, .rel, 2#8, true⟩,
  ⟨.lda, .izy, 5#8, true⟩,
  ⟨.xxx, .imp, 2#8, false⟩,
  ⟨.xxx, .imp, 5#8, false⟩,
  ⟨.ldy, .zpx, 4#8, true⟩,
  ⟨.lda, .zpx, 4#8, true⟩,
  ⟨.ldx, .zpy, 4#8, true⟩,
  ⟨.xxx, .imp, 4#8, false⟩,
  ⟨.clv, .imp, 2#8, true⟩,
  ⟨.lda, .aby, 4#8, true⟩,
  ⟨.tsx, .imp, 2#8, true⟩,
  ⟨.xxx, .imp, 4#8, false⟩,
  ⟨.ldy, .abx, 4#8, true⟩,
  ⟨.lda, .abx, 4#8, true⟩,
  ⟨.ldx, .aby, 4#8, true⟩,
  ⟨.xxx, .imp, 4#8, false⟩]

/-- Row Cx of the map of R85. -/
def tableRowC : List Entry := [
  ⟨.cpy, .imm, 2#8, true⟩,
  ⟨.cmp, .izx, 6#8, true⟩,
  ⟨.nop, .imp, 2#8, false⟩,
  ⟨.xxx, .imp, 8#8, false⟩,
  ⟨.cpy, .zp, 3#8, true⟩,
  ⟨.cmp, .zp, 3#8, true⟩,
  ⟨.dec, .zp, 5#8, true⟩,
  ⟨.xxx, .imp, 5#8, false⟩,
  ⟨.iny, .imp, 2#8, true⟩,
  ⟨.cmp, .imm, 2#8, true⟩,
  ⟨.dex, .imp, 2#8, true⟩,
  ⟨.xxx, .imp, 2#8, false⟩,
  ⟨.cpy, .abs, 4#8, true⟩,
  ⟨.cmp, .abs, 4#8, true⟩,
  ⟨.dec, .abs, 6#8, true⟩,
  ⟨.xxx, .imp, 6#8, false⟩]

/-- Row Dx of the map of R85. -/
def tableRowD : List Entry := [
  ⟨.bne, .rel, 2#8, true⟩,
  ⟨.cmp, .izy, 5#8, true⟩,
  ⟨.xxx, .imp, 2#8, false⟩,
  ⟨.xxx, .imp, 8#8, false⟩,
  ⟨.nop, .imp, 4#8, false⟩,
  ⟨.cmp, .zpx, 4#8, true⟩,
  ⟨.dec, .zpx, 6#8, true⟩,
  ⟨.xxx, .imp, 6#8, false⟩,
  ⟨.cld, .imp, 2#8, true⟩,
  ⟨.cmp, .aby, 4#8, true⟩,
  ⟨.nop, .imp, 2#8, false⟩,
  ⟨.xxx, .imp, 7#8, false⟩,
  ⟨.nop, .imp, 4#8, false⟩,
  ⟨.cmp, .abx, 4#8, true⟩,
  ⟨.dec, .abx, 7#8, true⟩,
  ⟨.xxx, .imp, 7#8, false⟩]

/-- Row Ex of the map of R85. -/
def tableRowE : List Entry := [
  ⟨.cpx, .imm, 2#8, true⟩,
  ⟨.sbc, .izx, 6#8, true⟩,
  ⟨.nop, .imp, 2#8, false⟩,
  ⟨.xxx, .imp, 8#8, false⟩,
  ⟨.cpx, .zp, 3#8, true⟩,
  ⟨.sbc, .zp, 3#8, true⟩,
  ⟨.inc, .zp, 5#8, true⟩,
  ⟨.xxx, .imp, 5#8, false⟩,
  ⟨.inx, .imp, 2#8, true⟩,
  ⟨.sbc, .imm, 2#8, true⟩,
  ⟨.nop, .imp, 2#8, true⟩,
  ⟨.xxx, .imp, 2#8, false⟩,
  ⟨.cpx, .abs, 4#8, true⟩,
  ⟨.sbc, .abs, 4#8, true⟩,
  ⟨.inc, .abs, 6#8, true⟩,
  ⟨.xxx, .imp, 6#8, false⟩]

/-- Row Fx of the map of R85. -/
def tableRowF : List Entry := [
  ⟨.beq, .rel, 2#8, true⟩,
  ⟨.sbc, .izy, 5#8, true⟩,
  ⟨.xxx, .imp, 2#8, false⟩,
  ⟨.xxx, .imp, 8#8, false⟩,
  ⟨.nop, .imp, 4#8, false⟩,
  ⟨.sbc, .zpx, 4#8, true⟩,
  ⟨.inc, .zpx, 6#8, true⟩,
  ⟨.xxx, .imp, 6#8, false⟩,
  ⟨.sed, .imp, 2#8, true⟩,
  ⟨.sbc, .aby, 4#8, true⟩,
  ⟨.nop, .imp, 2#8, false⟩,
  ⟨.xxx, .imp, 7#8, false⟩,
  ⟨.nop, .imp, 4#8, false⟩,
  ⟨.sbc, .abx, 4#8, true⟩,
  ⟨.inc, .abx, 7#8, true⟩,
  ⟨.xxx, .imp, 7#8, false⟩]

/-- The 256 entries, in the order of their opcodes. -/
def dispatchTable : List Entry :=
  tableRow0 ++ (tableRow1 ++ (tableRow2 ++ (tableRow3 ++ (tableRow4 ++ (tableRow5 ++ (tableRow6 ++ (tableRow7 ++
  (tableRow8 ++ (tableRow9 ++ (tableRowA ++ (tableRowB ++ (tableRowC ++ (tableRowD ++ (tableRowE ++ tableRowF
  ))))))))))))))

/-- `TABLE[opcode]` (R83, R84). The list has 256 entries, so the value past its end is never used. -/
def table (op : Byte) : Entry := dispatchTable.getD op.toNat ⟨.xxx, .imp, 2#8, false⟩

/-! The decoder. -/

/-- The instructions of row 0x (R85), from the two bytes after the opcode (R82). -/
def decodeRow0 : List (Byte → Byte → Instr) := [
  fun _ _ => .brk,
  fun b1 _ => .oraIzx b1,
  fun _ _ => .unassigned02,
  fun _ _ => .unassigned03,
  fun _ _ => .unassigned04,
  fun b1 _ => .oraZp b1,
  fun b1 _ => .aslZp b1,
  fun _ _ => .unassigned07,
  fun _ _ => .php,
  fun b1 _ => .oraImm b1,
  fun _ _ => .aslAcc,
  fun _ _ => .unassigned0B,
  fun _ _ => .unassigned0C,
  fun b1 b2 => .oraAbs (joinBytes b2 b1),
  fun b1 b2 => .aslAbs (joinBytes b2 b1),
  fun _ _ => .unassigned0F]

/-- The instructions of row 1x (R85), from the two bytes after the opcode (R82). -/
def decodeRow1 : List (Byte → Byte → Instr) := [
  fun b1 _ => .bpl b1,
  fun b1 _ => .oraIzy b1,
  fun _ _ => .unassigned12,
  fun _ _ => .unassigned13,
  fun _ _ => .unassigned14,
  fun b1 _ => .oraZpx b1,
  fun b1 _ => .aslZpx b1,
  fun _ _ => .unassigned17,
  fun _ _ => .clc,
  fun b1 b2 => .oraAby (joinBytes b2 b1),
  fun _ _ => .unassigned1A,
  fun _ _ => .unassigned1B,
  fun _ _ => .unassigned1C,
  fun b1 b2 => .oraAbx (joinBytes b2 b1),
  fun b1 b2 => .aslAbx (joinBytes b2 b1),
  fun _ _ => .unassigned1F]

/-- The instructions of row 2x (R85), from the two bytes after the opcode (R82). -/
def decodeRow2 : List (Byte → Byte → Instr) := [
  fun b1 b2 => .jsr (joinBytes b2 b1),
  fun b1 _ => .andIzx b1,
  fun _ _ => .unassigned22,
  fun _ _ => .unassigned23,
  fun b1 _ => .bitZp b1,
  fun b1 _ => .andZp b1,
  fun b1 _ => .rolZp b1,
  fun _ _ => .unassigned27,
  fun _ _ => .plp,
  fun b1 _ => .andImm b1,
  fun _ _ => .rolAcc,
  fun _ _ => .unassigned2B,
  fun b1 b2 => .bitAbs (joinBytes b2 b1),
  fun b1 b2 => .andAbs (joinBytes b2 b1),
  fun b1 b2 => .rolAbs (joinBytes b2 b1),
  fun _ _ => .unassigned2F]

/-- The instructions of row 3x (R85), from the two bytes after the opcode (R82). -/
def decodeRow3 : List (Byte → Byte → Instr) := [
  fun b1 _ => .bmi b1,
  fun b1 _ => .andIzy b1,
  fun _ _ => .unassigned32,
  fun _ _ => .unassigned33,
  fun _ _ => .unassigned34,
  fun b1 _ => .andZpx b1,
  fun b1 _ => .rolZpx b1,
  fun _ _ => .unassigned37,
  fun _ _ => .sec,
  fun b1 b2 => .andAby (joinBytes b2 b1),
  fun _ _ => .unassigned3A,
  fun _ _ => .unassigned3B,
  fun _ _ => .unassigned3C,
  fun b1 b2 => .andAbx (joinBytes b2 b1),
  fun b1 b2 => .rolAbx (joinBytes b2 b1),
  fun _ _ => .unassigned3F]

/-- The instructions of row 4x (R85), from the two bytes after the opcode (R82). -/
def decodeRow4 : List (Byte → Byte → Instr) := [
  fun _ _ => .rti,
  fun b1 _ => .eorIzx b1,
  fun _ _ => .unassigned42,
  fun _ _ => .unassigned43,
  fun _ _ => .unassigned44,
  fun b1 _ => .eorZp b1,
  fun b1 _ => .lsrZp b1,
  fun _ _ => .unassigned47,
  fun _ _ => .pha,
  fun b1 _ => .eorImm b1,
  fun _ _ => .lsrAcc,
  fun _ _ => .unassigned4B,
  fun b1 b2 => .jmpAbs (joinBytes b2 b1),
  fun b1 b2 => .eorAbs (joinBytes b2 b1),
  fun b1 b2 => .lsrAbs (joinBytes b2 b1),
  fun _ _ => .unassigned4F]

/-- The instructions of row 5x (R85), from the two bytes after the opcode (R82). -/
def decodeRow5 : List (Byte → Byte → Instr) := [
  fun b1 _ => .bvc b1,
  fun b1 _ => .eorIzy b1,
  fun _ _ => .unassigned52,
  fun _ _ => .unassigned53,
  fun _ _ => .unassigned54,
  fun b1 _ => .eorZpx b1,
  fun b1 _ => .lsrZpx b1,
  fun _ _ => .unassigned57,
  fun _ _ => .cli,
  fun b1 b2 => .eorAby (joinBytes b2 b1),
  fun _ _ => .unassigned5A,
  fun _ _ => .unassigned5B,
  fun _ _ => .unassigned5C,
  fun b1 b2 => .eorAbx (joinBytes b2 b1),
  fun b1 b2 => .lsrAbx (joinBytes b2 b1),
  fun _ _ => .unassigned5F]

/-- The instructions of row 6x (R85), from the two bytes after the opcode (R82). -/
def decodeRow6 : List (Byte → Byte → Instr) := [
  fun _ _ => .rts,
  fun b1 _ => .adcIzx b1,
  fun _ _ => .unassigned62,
  fun _ _ => .unassigned63,
  fun _ _ => .unassigned64,
  fun b1 _ => .adcZp b1,
  fun b1 _ => .rorZp b1,
  fun _ _ => .unassigned67,
  fun _ _ => .pla,
  fun b1 _ => .adcImm b1,
  fun _ _ => .rorAcc,
  fun _ _ => .unassigned6B,
  fun b1 b2 => .jmpInd (joinBytes b2 b1),
  fun b1 b2 => .adcAbs (joinBytes b2 b1),
  fun b1 b2 => .rorAbs (joinBytes b2 b1),
  fun _ _ => .unassigned6F]

/-- The instructions of row 7x (R85), from the two bytes after the opcode (R82). -/
def decodeRow7 : List (Byte → Byte → Instr) := [
  fun b1 _ => .bvs b1,
  fun b1 _ => .adcIzy b1,
  fun _ _ => .unassigned72,
  fun _ _ => .unassigned73,
  fun _ _ => .unassigned74,
  fun b1 _ => .adcZpx b1,
  fun b1 _ => .rorZpx b1,
  fun _ _ => .unassigned77,
  fun _ _ => .sei,
  fun b1 b2 => .adcAby (joinBytes b2 b1),
  fun _ _ => .unassigned7A,
  fun _ _ => .unassigned7B,
  fun _ _ => .unassigned7C,
  fun b1 b2 => .adcAbx (joinBytes b2 b1),
  fun b1 b2 => .rorAbx (joinBytes b2 b1),
  fun _ _ => .unassigned7F]

/-- The instructions of row 8x (R85), from the two bytes after the opcode (R82). -/
def decodeRow8 : List (Byte → Byte → Instr) := [
  fun _ _ => .unassigned80,
  fun b1 _ => .staIzx b1,
  fun _ _ => .unassigned82,
  fun _ _ => .unassigned83,
  fun b1 _ => .styZp b1,
  fun b1 _ => .staZp b1,
  fun b1 _ => .stxZp b1,
  fun _ _ => .unassigned87,
  fun _ _ => .dey,
  fun _ _ => .unassigned89,
  fun _ _ => .txa,
  fun _ _ => .unassigned8B,
  fun b1 b2 => .styAbs (joinBytes b2 b1),
  fun b1 b2 => .staAbs (joinBytes b2 b1),
  fun b1 b2 => .stxAbs (joinBytes b2 b1),
  fun _ _ => .unassigned8F]

/-- The instructions of row 9x (R85), from the two bytes after the opcode (R82). -/
def decodeRow9 : List (Byte → Byte → Instr) := [
  fun b1 _ => .bcc b1,
  fun b1 _ => .staIzy b1,
  fun _ _ => .unassigned92,
  fun _ _ => .unassigned93,
  fun b1 _ => .styZpx b1,
  fun b1 _ => .staZpx b1,
  fun b1 _ => .stxZpy b1,
  fun _ _ => .unassigned97,
  fun _ _ => .tya,
  fun b1 b2 => .staAby (joinBytes b2 b1),
  fun _ _ => .txs,
  fun _ _ => .unassigned9B,
  fun _ _ => .unassigned9C,
  fun b1 b2 => .staAbx (joinBytes b2 b1),
  fun _ _ => .unassigned9E,
  fun _ _ => .unassigned9F]

/-- The instructions of row Ax (R85), from the two bytes after the opcode (R82). -/
def decodeRowA : List (Byte → Byte → Instr) := [
  fun b1 _ => .ldyImm b1,
  fun b1 _ => .ldaIzx b1,
  fun b1 _ => .ldxImm b1,
  fun _ _ => .unassignedA3,
  fun b1 _ => .ldyZp b1,
  fun b1 _ => .ldaZp b1,
  fun b1 _ => .ldxZp b1,
  fun _ _ => .unassignedA7,
  fun _ _ => .tay,
  fun b1 _ => .ldaImm b1,
  fun _ _ => .tax,
  fun _ _ => .unassignedAB,
  fun b1 b2 => .ldyAbs (joinBytes b2 b1),
  fun b1 b2 => .ldaAbs (joinBytes b2 b1),
  fun b1 b2 => .ldxAbs (joinBytes b2 b1),
  fun _ _ => .unassignedAF]

/-- The instructions of row Bx (R85), from the two bytes after the opcode (R82). -/
def decodeRowB : List (Byte → Byte → Instr) := [
  fun b1 _ => .bcs b1,
  fun b1 _ => .ldaIzy b1,
  fun _ _ => .unassignedB2,
  fun _ _ => .unassignedB3,
  fun b1 _ => .ldyZpx b1,
  fun b1 _ => .ldaZpx b1,
  fun b1 _ => .ldxZpy b1,
  fun _ _ => .unassignedB7,
  fun _ _ => .clv,
  fun b1 b2 => .ldaAby (joinBytes b2 b1),
  fun _ _ => .tsx,
  fun _ _ => .unassignedBB,
  fun b1 b2 => .ldyAbx (joinBytes b2 b1),
  fun b1 b2 => .ldaAbx (joinBytes b2 b1),
  fun b1 b2 => .ldxAby (joinBytes b2 b1),
  fun _ _ => .unassignedBF]

/-- The instructions of row Cx (R85), from the two bytes after the opcode (R82). -/
def decodeRowC : List (Byte → Byte → Instr) := [
  fun b1 _ => .cpyImm b1,
  fun b1 _ => .cmpIzx b1,
  fun _ _ => .unassignedC2,
  fun _ _ => .unassignedC3,
  fun b1 _ => .cpyZp b1,
  fun b1 _ => .cmpZp b1,
  fun b1 _ => .decZp b1,
  fun _ _ => .unassignedC7,
  fun _ _ => .iny,
  fun b1 _ => .cmpImm b1,
  fun _ _ => .dex,
  fun _ _ => .unassignedCB,
  fun b1 b2 => .cpyAbs (joinBytes b2 b1),
  fun b1 b2 => .cmpAbs (joinBytes b2 b1),
  fun b1 b2 => .decAbs (joinBytes b2 b1),
  fun _ _ => .unassignedCF]

/-- The instructions of row Dx (R85), from the two bytes after the opcode (R82). -/
def decodeRowD : List (Byte → Byte → Instr) := [
  fun b1 _ => .bne b1,
  fun b1 _ => .cmpIzy b1,
  fun _ _ => .unassignedD2,
  fun _ _ => .unassignedD3,
  fun _ _ => .unassignedD4,
  fun b1 _ => .cmpZpx b1,
  fun b1 _ => .decZpx b1,
  fun _ _ => .unassignedD7,
  fun _ _ => .cld,
  fun b1 b2 => .cmpAby (joinBytes b2 b1),
  fun _ _ => .unassignedDA,
  fun _ _ => .unassignedDB,
  fun _ _ => .unassignedDC,
  fun b1 b2 => .cmpAbx (joinBytes b2 b1),
  fun b1 b2 => .decAbx (joinBytes b2 b1),
  fun _ _ => .unassignedDF]

/-- The instructions of row Ex (R85), from the two bytes after the opcode (R82). -/
def decodeRowE : List (Byte → Byte → Instr) := [
  fun b1 _ => .cpxImm b1,
  fun b1 _ => .sbcIzx b1,
  fun _ _ => .unassignedE2,
  fun _ _ => .unassignedE3,
  fun b1 _ => .cpxZp b1,
  fun b1 _ => .sbcZp b1,
  fun b1 _ => .incZp b1,
  fun _ _ => .unassignedE7,
  fun _ _ => .inx,
  fun b1 _ => .sbcImm b1,
  fun _ _ => .nop,
  fun _ _ => .unassignedEB,
  fun b1 b2 => .cpxAbs (joinBytes b2 b1),
  fun b1 b2 => .sbcAbs (joinBytes b2 b1),
  fun b1 b2 => .incAbs (joinBytes b2 b1),
  fun _ _ => .unassignedEF]

/-- The instructions of row Fx (R85), from the two bytes after the opcode (R82). -/
def decodeRowF : List (Byte → Byte → Instr) := [
  fun b1 _ => .beq b1,
  fun b1 _ => .sbcIzy b1,
  fun _ _ => .unassignedF2,
  fun _ _ => .unassignedF3,
  fun _ _ => .unassignedF4,
  fun b1 _ => .sbcZpx b1,
  fun b1 _ => .incZpx b1,
  fun _ _ => .unassignedF7,
  fun _ _ => .sed,
  fun b1 b2 => .sbcAby (joinBytes b2 b1),
  fun _ _ => .unassignedFA,
  fun _ _ => .unassignedFB,
  fun _ _ => .unassignedFC,
  fun b1 b2 => .sbcAbx (joinBytes b2 b1),
  fun b1 b2 => .incAbx (joinBytes b2 b1),
  fun _ _ => .unassignedFF]

/-- The 256 decoders, in the order of the opcodes. -/
def decodeRows : List (Byte → Byte → Instr) :=
  decodeRow0 ++ (decodeRow1 ++ (decodeRow2 ++ (decodeRow3 ++ (decodeRow4 ++ (decodeRow5 ++ (decodeRow6 ++ (decodeRow7 ++
  (decodeRow8 ++ (decodeRow9 ++ (decodeRowA ++ (decodeRowB ++ (decodeRowC ++ (decodeRowD ++ (decodeRowE ++ decodeRowF
  ))))))))))))))

/-- The instruction with an opcode and the two bytes after it; the bytes its mode does not have are ignored (R81, R82).
The list has 256 entries, so the value past its end is never used. -/
def decodeParts (op b1 b2 : Byte) : Instr := decodeRows.getD op.toNat (fun _ _ => .unassigned02) b1 b2

/-- Why bytes do not decode. No opcode is reserved (R84, R88): only too few bytes are refused. -/
inductive DecodeError where
  /-- There is no opcode byte. -/
  | noBytes
  /-- The bytes end before the operand of this opcode does. -/
  | truncated (opcode : Byte)
deriving DecidableEq, Repr

/-- The instruction at the head of a list of bytes, with the rest of the list (R80, R81). -/
def decode : List Byte → Except DecodeError (Instr × List Byte)
  | [] => .error .noBytes
  | op :: rest =>
    match (table op).mode.operandBytes, rest with
    | 0, rest => .ok (decodeParts op 0#8 0#8, rest)
    | 1, b1 :: rest => .ok (decodeParts op b1 0#8, rest)
    | 2, b1 :: b2 :: rest => .ok (decodeParts op b1 b2, rest)
    | _, _ => .error (.truncated op)

/-- Byte `k` of an instruction whose bits are `w`, numbered as spec/opcode_table.json numbers them (bit 0 the least
significant bit of the first byte), the bits from `nbits` on being 0. -/
def tableByte (nbits w k : Nat) : Byte := BitVec.ofNat 8 ((w % 2 ^ nbits) >>> (8 * k))

/-- What the decoder reads from an instruction of the opcode table. -/
def decodeTableWord (nbits w : Nat) : Option Instr :=
  match decode [tableByte nbits w 0, tableByte nbits w 1, tableByte nbits w 2] with
  | .ok (i, _) => some i
  | .error _ => none

/-! The encoder. -/

/-- The opcode of an instruction (R86, R87). -/
def Instr.opcode : Instr → Byte
  | .brk => 0x00#8
  | .oraIzx _ => 0x01#8
  | .unassigned02 => 0x02#8
  | .unassigned03 => 0x03#8
  | .unassigned04 => 0x04#8
  | .oraZp _ => 0x05#8
  | .aslZp _ => 0x06#8
  | .unassigned07 => 0x07#8
  | .php => 0x08#8
  | .oraImm _ => 0x09#8
  | .aslAcc => 0x0A#8
  | .unassigned0B => 0x0B#8
  | .unassigned0C => 0x0C#8
  | .oraAbs _ => 0x0D#8
  | .aslAbs _ => 0x0E#8
  | .unassigned0F => 0x0F#8
  | .bpl _ => 0x10#8
  | .oraIzy _ => 0x11#8
  | .unassigned12 => 0x12#8
  | .unassigned13 => 0x13#8
  | .unassigned14 => 0x14#8
  | .oraZpx _ => 0x15#8
  | .aslZpx _ => 0x16#8
  | .unassigned17 => 0x17#8
  | .clc => 0x18#8
  | .oraAby _ => 0x19#8
  | .unassigned1A => 0x1A#8
  | .unassigned1B => 0x1B#8
  | .unassigned1C => 0x1C#8
  | .oraAbx _ => 0x1D#8
  | .aslAbx _ => 0x1E#8
  | .unassigned1F => 0x1F#8
  | .jsr _ => 0x20#8
  | .andIzx _ => 0x21#8
  | .unassigned22 => 0x22#8
  | .unassigned23 => 0x23#8
  | .bitZp _ => 0x24#8
  | .andZp _ => 0x25#8
  | .rolZp _ => 0x26#8
  | .unassigned27 => 0x27#8
  | .plp => 0x28#8
  | .andImm _ => 0x29#8
  | .rolAcc => 0x2A#8
  | .unassigned2B => 0x2B#8
  | .bitAbs _ => 0x2C#8
  | .andAbs _ => 0x2D#8
  | .rolAbs _ => 0x2E#8
  | .unassigned2F => 0x2F#8
  | .bmi _ => 0x30#8
  | .andIzy _ => 0x31#8
  | .unassigned32 => 0x32#8
  | .unassigned33 => 0x33#8
  | .unassigned34 => 0x34#8
  | .andZpx _ => 0x35#8
  | .rolZpx _ => 0x36#8
  | .unassigned37 => 0x37#8
  | .sec => 0x38#8
  | .andAby _ => 0x39#8
  | .unassigned3A => 0x3A#8
  | .unassigned3B => 0x3B#8
  | .unassigned3C => 0x3C#8
  | .andAbx _ => 0x3D#8
  | .rolAbx _ => 0x3E#8
  | .unassigned3F => 0x3F#8
  | .rti => 0x40#8
  | .eorIzx _ => 0x41#8
  | .unassigned42 => 0x42#8
  | .unassigned43 => 0x43#8
  | .unassigned44 => 0x44#8
  | .eorZp _ => 0x45#8
  | .lsrZp _ => 0x46#8
  | .unassigned47 => 0x47#8
  | .pha => 0x48#8
  | .eorImm _ => 0x49#8
  | .lsrAcc => 0x4A#8
  | .unassigned4B => 0x4B#8
  | .jmpAbs _ => 0x4C#8
  | .eorAbs _ => 0x4D#8
  | .lsrAbs _ => 0x4E#8
  | .unassigned4F => 0x4F#8
  | .bvc _ => 0x50#8
  | .eorIzy _ => 0x51#8
  | .unassigned52 => 0x52#8
  | .unassigned53 => 0x53#8
  | .unassigned54 => 0x54#8
  | .eorZpx _ => 0x55#8
  | .lsrZpx _ => 0x56#8
  | .unassigned57 => 0x57#8
  | .cli => 0x58#8
  | .eorAby _ => 0x59#8
  | .unassigned5A => 0x5A#8
  | .unassigned5B => 0x5B#8
  | .unassigned5C => 0x5C#8
  | .eorAbx _ => 0x5D#8
  | .lsrAbx _ => 0x5E#8
  | .unassigned5F => 0x5F#8
  | .rts => 0x60#8
  | .adcIzx _ => 0x61#8
  | .unassigned62 => 0x62#8
  | .unassigned63 => 0x63#8
  | .unassigned64 => 0x64#8
  | .adcZp _ => 0x65#8
  | .rorZp _ => 0x66#8
  | .unassigned67 => 0x67#8
  | .pla => 0x68#8
  | .adcImm _ => 0x69#8
  | .rorAcc => 0x6A#8
  | .unassigned6B => 0x6B#8
  | .jmpInd _ => 0x6C#8
  | .adcAbs _ => 0x6D#8
  | .rorAbs _ => 0x6E#8
  | .unassigned6F => 0x6F#8
  | .bvs _ => 0x70#8
  | .adcIzy _ => 0x71#8
  | .unassigned72 => 0x72#8
  | .unassigned73 => 0x73#8
  | .unassigned74 => 0x74#8
  | .adcZpx _ => 0x75#8
  | .rorZpx _ => 0x76#8
  | .unassigned77 => 0x77#8
  | .sei => 0x78#8
  | .adcAby _ => 0x79#8
  | .unassigned7A => 0x7A#8
  | .unassigned7B => 0x7B#8
  | .unassigned7C => 0x7C#8
  | .adcAbx _ => 0x7D#8
  | .rorAbx _ => 0x7E#8
  | .unassigned7F => 0x7F#8
  | .unassigned80 => 0x80#8
  | .staIzx _ => 0x81#8
  | .unassigned82 => 0x82#8
  | .unassigned83 => 0x83#8
  | .styZp _ => 0x84#8
  | .staZp _ => 0x85#8
  | .stxZp _ => 0x86#8
  | .unassigned87 => 0x87#8
  | .dey => 0x88#8
  | .unassigned89 => 0x89#8
  | .txa => 0x8A#8
  | .unassigned8B => 0x8B#8
  | .styAbs _ => 0x8C#8
  | .staAbs _ => 0x8D#8
  | .stxAbs _ => 0x8E#8
  | .unassigned8F => 0x8F#8
  | .bcc _ => 0x90#8
  | .staIzy _ => 0x91#8
  | .unassigned92 => 0x92#8
  | .unassigned93 => 0x93#8
  | .styZpx _ => 0x94#8
  | .staZpx _ => 0x95#8
  | .stxZpy _ => 0x96#8
  | .unassigned97 => 0x97#8
  | .tya => 0x98#8
  | .staAby _ => 0x99#8
  | .txs => 0x9A#8
  | .unassigned9B => 0x9B#8
  | .unassigned9C => 0x9C#8
  | .staAbx _ => 0x9D#8
  | .unassigned9E => 0x9E#8
  | .unassigned9F => 0x9F#8
  | .ldyImm _ => 0xA0#8
  | .ldaIzx _ => 0xA1#8
  | .ldxImm _ => 0xA2#8
  | .unassignedA3 => 0xA3#8
  | .ldyZp _ => 0xA4#8
  | .ldaZp _ => 0xA5#8
  | .ldxZp _ => 0xA6#8
  | .unassignedA7 => 0xA7#8
  | .tay => 0xA8#8
  | .ldaImm _ => 0xA9#8
  | .tax => 0xAA#8
  | .unassignedAB => 0xAB#8
  | .ldyAbs _ => 0xAC#8
  | .ldaAbs _ => 0xAD#8
  | .ldxAbs _ => 0xAE#8
  | .unassignedAF => 0xAF#8
  | .bcs _ => 0xB0#8
  | .ldaIzy _ => 0xB1#8
  | .unassignedB2 => 0xB2#8
  | .unassignedB3 => 0xB3#8
  | .ldyZpx _ => 0xB4#8
  | .ldaZpx _ => 0xB5#8
  | .ldxZpy _ => 0xB6#8
  | .unassignedB7 => 0xB7#8
  | .clv => 0xB8#8
  | .ldaAby _ => 0xB9#8
  | .tsx => 0xBA#8
  | .unassignedBB => 0xBB#8
  | .ldyAbx _ => 0xBC#8
  | .ldaAbx _ => 0xBD#8
  | .ldxAby _ => 0xBE#8
  | .unassignedBF => 0xBF#8
  | .cpyImm _ => 0xC0#8
  | .cmpIzx _ => 0xC1#8
  | .unassignedC2 => 0xC2#8
  | .unassignedC3 => 0xC3#8
  | .cpyZp _ => 0xC4#8
  | .cmpZp _ => 0xC5#8
  | .decZp _ => 0xC6#8
  | .unassignedC7 => 0xC7#8
  | .iny => 0xC8#8
  | .cmpImm _ => 0xC9#8
  | .dex => 0xCA#8
  | .unassignedCB => 0xCB#8
  | .cpyAbs _ => 0xCC#8
  | .cmpAbs _ => 0xCD#8
  | .decAbs _ => 0xCE#8
  | .unassignedCF => 0xCF#8
  | .bne _ => 0xD0#8
  | .cmpIzy _ => 0xD1#8
  | .unassignedD2 => 0xD2#8
  | .unassignedD3 => 0xD3#8
  | .unassignedD4 => 0xD4#8
  | .cmpZpx _ => 0xD5#8
  | .decZpx _ => 0xD6#8
  | .unassignedD7 => 0xD7#8
  | .cld => 0xD8#8
  | .cmpAby _ => 0xD9#8
  | .unassignedDA => 0xDA#8
  | .unassignedDB => 0xDB#8
  | .unassignedDC => 0xDC#8
  | .cmpAbx _ => 0xDD#8
  | .decAbx _ => 0xDE#8
  | .unassignedDF => 0xDF#8
  | .cpxImm _ => 0xE0#8
  | .sbcIzx _ => 0xE1#8
  | .unassignedE2 => 0xE2#8
  | .unassignedE3 => 0xE3#8
  | .cpxZp _ => 0xE4#8
  | .sbcZp _ => 0xE5#8
  | .incZp _ => 0xE6#8
  | .unassignedE7 => 0xE7#8
  | .inx => 0xE8#8
  | .sbcImm _ => 0xE9#8
  | .nop => 0xEA#8
  | .unassignedEB => 0xEB#8
  | .cpxAbs _ => 0xEC#8
  | .sbcAbs _ => 0xED#8
  | .incAbs _ => 0xEE#8
  | .unassignedEF => 0xEF#8
  | .beq _ => 0xF0#8
  | .sbcIzy _ => 0xF1#8
  | .unassignedF2 => 0xF2#8
  | .unassignedF3 => 0xF3#8
  | .unassignedF4 => 0xF4#8
  | .sbcZpx _ => 0xF5#8
  | .incZpx _ => 0xF6#8
  | .unassignedF7 => 0xF7#8
  | .sed => 0xF8#8
  | .sbcAby _ => 0xF9#8
  | .unassignedFA => 0xFA#8
  | .unassignedFB => 0xFB#8
  | .unassignedFC => 0xFC#8
  | .sbcAbx _ => 0xFD#8
  | .incAbx _ => 0xFE#8
  | .unassignedFF => 0xFF#8

/-- The dispatch-table entry of an instruction. -/
def Instr.entry (i : Instr) : Entry := table i.opcode

/-- The operand bytes in address order (R82). BRK's padding byte is written 0x00, as an assembler does (R90). -/
def Operand.bytes : Operand → List Byte
  | .imp => []
  | .imm v => [v]
  | .skipped => [0x00#8]
  | .zp b | .zpx b | .zpy b | .rel b | .izx b | .izy b => [b]
  | .abs w | .abx w | .aby w | .ind w => [lowByte w, highByte w]

/-- The bytes of an instruction (R80). -/
def encode (i : Instr) : List Byte := i.opcode :: i.operand.bytes

/-! Assembly text (R83 "for diagnostics only", R90). No rule depends on it. -/

/-- The mnemonic of a handler. -/
def Handler.name : Handler → String
  | .adc => "ADC"
  | .and => "AND"
  | .asl => "ASL"
  | .bcc => "BCC"
  | .bcs => "BCS"
  | .beq => "BEQ"
  | .bit => "BIT"
  | .bmi => "BMI"
  | .bne => "BNE"
  | .bpl => "BPL"
  | .brk => "BRK"
  | .bvc => "BVC"
  | .bvs => "BVS"
  | .clc => "CLC"
  | .cld => "CLD"
  | .cli => "CLI"
  | .clv => "CLV"
  | .cmp => "CMP"
  | .cpx => "CPX"
  | .cpy => "CPY"
  | .dec => "DEC"
  | .dex => "DEX"
  | .dey => "DEY"
  | .eor => "EOR"
  | .inc => "INC"
  | .inx => "INX"
  | .iny => "INY"
  | .jmp => "JMP"
  | .jsr => "JSR"
  | .lda => "LDA"
  | .ldx => "LDX"
  | .ldy => "LDY"
  | .lsr => "LSR"
  | .nop => "NOP"
  | .ora => "ORA"
  | .pha => "PHA"
  | .php => "PHP"
  | .pla => "PLA"
  | .plp => "PLP"
  | .rol => "ROL"
  | .ror => "ROR"
  | .rti => "RTI"
  | .rts => "RTS"
  | .sbc => "SBC"
  | .sec => "SEC"
  | .sed => "SED"
  | .sei => "SEI"
  | .sta => "STA"
  | .stx => "STX"
  | .sty => "STY"
  | .tax => "TAX"
  | .tay => "TAY"
  | .tsx => "TSX"
  | .txa => "TXA"
  | .txs => "TXS"
  | .tya => "TYA"
  | .xxx => "???"

/-- The diagnostic mnemonic of an entry: "???" for every unassigned opcode (90 C14). -/
def Entry.mnemonic (e : Entry) : String := if e.assigned then e.handler.name else "???"

/-- A number in hexadecimal, padded to `n` digits, after a dollar sign (R6). -/
def hexText (n k : Nat) : String :=
  let d := (Nat.toDigits 16 k).map Char.toUpper
  "$" ++ String.ofList (List.replicate (n - d.length) '0' ++ d)

/-- The operand as R90 writes it; `next` is the address of the next instruction, from which a displacement counts. -/
def Operand.text (accumulator : Bool) (next : Word) : Operand → String
  | .imp => if accumulator then " A" else ""
  | .imm v => " #" ++ hexText 2 v.toNat
  | .skipped => ""
  | .zp b => " " ++ hexText 2 b.toNat
  | .zpx b => " " ++ hexText 2 b.toNat ++ ",X"
  | .zpy b => " " ++ hexText 2 b.toNat ++ ",Y"
  | .rel b => " " ++ hexText 4 (next + signExtend b).toNat
  | .abs w => " " ++ hexText 4 w.toNat
  | .abx w => " " ++ hexText 4 w.toNat ++ ",X"
  | .aby w => " " ++ hexText 4 w.toNat ++ ",Y"
  | .ind w => " (" ++ hexText 4 w.toNat ++ ")"
  | .izx b => " (" ++ hexText 2 b.toNat ++ ",X)"
  | .izy b => " (" ++ hexText 2 b.toNat ++ "),Y"

/-- Whether a handler is a shift or rotate, whose IMP form works on A (R92, R124). -/
def Handler.shifts (h : Handler) : Bool := [Handler.asl, .lsr, .rol, .ror].contains h

/-- An instruction at an address in assembly text (R90). -/
def Instr.assembly (at_ : Word) (i : Instr) : String :=
  i.entry.mnemonic ++ i.operand.text i.handler.shifts (at_ + BitVec.ofNat 16 i.entry.length)

/-- The displacement byte of a branch at `at_` to `target` (R90), when it lies in -128 to +127. -/
def branchByte (at_ target : Word) : Option Byte :=
  let d := target - (at_ + 2#16)
  if signExtend (lowByte d) = d then some (lowByte d) else none

end Sys2Proof
end

