-- ==== Sys2Proof/Machine/State.lean ====
section
/-! DEFINITION. The whole state of the core (10_state.md section 1), of the bus behind it as plain data, and the state
after reset. -/

namespace Sys2Proof.Machine

/-- The stored flags of the status register P (R25 to R33). Bit 5, U, is not stored: it reads 1 (R31). -/
structure Status where
  c : Bool
  z : Bool
  i : Bool
  d : Bool
  b : Bool
  v : Bool
  n : Bool
deriving DecidableEq, Repr

/-- The bytes of the plain-RAM addresses, by address, in canonical form: see `Memory.wf`. -/
abbrev Memory := List Host.Cell

/-- What an address nothing has written reads as. The spec leaves the initial content to the platform (R51, R341).
DESIGN CHOICE, unsafe: 0x00 (notes/assumptions/2.md). -/
def unlistedByte : Byte := 0x00#8

/-- A call of the host that changes the core (R268). `complete()` and the state read change nothing. -/
inductive HostCall where
  | tick (irq : Bool)
  | reset
  | nmi
deriving DecidableEq, Repr

/-- The state: R20 to R42, then the bus (R51) as plain data, then the host's coming calls. -/
structure State where
  /-- A (R21). -/
  a : Byte
  /-- X (R22). -/
  x : Byte
  /-- Y (R22). -/
  y : Byte
  /-- SP, an offset into page 1 (R23). -/
  sp : Byte
  /-- PC (R24). -/
  pc : Word
  /-- P, the stored flags (R25). -/
  p : Status
  /-- `opcode` (R36). -/
  opcode : Byte
  /-- `fetched` (R37). -/
  fetched : Byte
  /-- `addr_abs` (R38). -/
  addrAbs : Word
  /-- `addr_rel` (R39). -/
  addrRel : Word
  /-- `temp` (R40). -/
  temp : Word
  /-- `cycles`, the ticks the in-flight instruction still owes (R41). -/
  cycles : Byte
  /-- `nmi_pending` (R42). -/
  nmiPending : Bool
  /-- The contents of the plain-RAM addresses (R51). -/
  mem : Memory
  /-- The address map: the first window that holds an address says what answers there; an address in no window is
  plain RAM (R51, R60; notes/assumptions/1.md). No step changes it. -/
  busMap : List Window
  /-- The state of the bus (R51), as plain data: every access so far that can have changed it, newest first, from which
  `Bus.after` gives the `BusState`. Not listed are a read of plain RAM, which "has no effect" (R51), and a write to an
  unmapped address, which is "silently dropped" (R52). -/
  busLog : List BusAccess
  /-- The MODEL's own field (notes/assumptions/5.md): the calls the host makes next. When it is empty the host ticks
  with irq = 0. -/
  hostCalls : List HostCall
deriving DecidableEq, Repr

/-- Why the machine could stop with a fault. No constructor: "The block raises no synchronous exception" (R300), and
`tick` "is total for every state and every bus" (R269). -/
inductive Fault where
deriving DecidableEq, Repr

/-- Why an instruction could be refused. -/
inductive Refusal where
  /-- An instruction that has no meaning in the model yet, raised only by `exec`'s arm for it. Safe: the model stops
  where the hardware goes on. Every instruction has its meaning, so nothing answers with it. -/
  | notModelled (mnemonic : String)
deriving DecidableEq, Repr

/-- What a step answers. -/
abbrev Result := Host.Outcome State Fault Refusal

/-- The flags after reset (R341): I = 1, all others 0. -/
def Status.reset : Status :=
  { c := false, z := false, i := true, d := false, b := false, v := false, n := false }

/-- The machine right after `reset()` (R341), on a bus whose every address is plain RAM that nothing has written
(DESIGN CHOICE, notes/assumptions/2.md and 3.md). PC is the word at the reset vector, which reads 0x0000 there
(notes/assumptions/17.md). -/
def State.reset : State where
  a := Config.resetAxy
  x := Config.resetAxy
  y := Config.resetAxy
  sp := Config.resetSp
  pc := 0x0000#16
  p := Status.reset
  opcode := 0x00#8
  fetched := 0x00#8
  addrAbs := 0x0000#16
  addrRel := 0x0000#16
  temp := 0x0000#16
  cycles := Config.resetCycles
  nmiPending := false
  mem := []
  busMap := []
  busLog := []
  hostCalls := []

end Sys2Proof.Machine
end

