-- ==== Sys2Proof/Machine/Flags.lean ====
section
/-! DEFINITION. The status byte (R25, R34, R35) and every flag computation of the ALU (R220, R221, R227). -/

namespace Sys2Proof.Machine

/-- `Pbyte` (R34): the combined read, N V 1 B D I Z C from bit 7 down; U (bit 5) always reads 1 (R31). -/
def pbyte (p : Status) : Byte :=
  BitVec.ofBool p.n ++ BitVec.ofBool p.v ++ 1#1 ++ BitVec.ofBool p.b ++ BitVec.ofBool p.d ++ BitVec.ofBool p.i ++
    BitVec.ofBool p.z ++ BitVec.ofBool p.c

/-- `SetP(b)` (R35): the combined write; bit 5 is ignored. -/
def statusOf (v : Byte) : Status where
  c := v.getLsbD 0
  z := v.getLsbD 1
  i := v.getLsbD 2
  d := v.getLsbD 3
  b := v.getLsbD 4
  v := v.getLsbD 6
  n := v.getLsbD 7

/-- The byte a push of P writes (R34): bit 4 forced to 1 by PHP and BRK (`Pbyte | 0x10`), to 0 by IRQ and NMI
(`Pbyte & ~0x10`). -/
def pushedStatus (brk : Bool) (p : Status) : Byte :=
  if brk then pbyte p ||| 0x10#8 else pbyte p &&& ~~~0x10#8

/-- `SetZN(v)` (R220). -/
def withZN (v : Byte) (p : Status) : Status :=
  { p with z := v == 0x00#8, n := v.getLsbD 7 }

/-- The 9-bit sum of ADC and SBC (R221, R222), in the 16-bit `temp`. -/
def sum9 (a m : Byte) (c : Bool) : Word :=
  a.setWidth 16 + m.setWidth 16 + (BitVec.ofBool c).setWidth 16

/-- The carry of ADC and SBC (R221): `temp > 0x00FF`. -/
def sumCarry (t : Word) : Bool := 0x00FF#16 < t

/-- The overflow of ADC and SBC (R221): the operands have the same sign and the result's differs. -/
def sumOverflow (a m r : Byte) : Bool := (~~~(a ^^^ m) &&& (a ^^^ r)).getLsbD 7

/-- The flags ADC and SBC write (R221, R222), for the byte `m` that is added. -/
def withSum (a m : Byte) (p : Status) : Status :=
  let t := sum9 a m p.c
  let r := t.setWidth 8
  withZN r { p with c := sumCarry t, v := sumOverflow a m r }

/-- The difference of a comparison (R227), mod 2^16. -/
def difference (r m : Byte) : Word := r.setWidth 16 - m.setWidth 16

/-- The flags a comparison writes (R227): C is "no borrow", Z and N from the 8-bit difference. -/
def withCompare (r m : Byte) (p : Status) : Status :=
  withZN ((difference r m).setWidth 8) { p with c := decide (m ≤ r) }

/-- The flags BIT writes (R226): Z from A & M, N and V from the memory byte. -/
def withBit (a m : Byte) (p : Status) : Status :=
  { p with z := (a &&& m) == 0x00#8, n := m.getLsbD 7, v := m.getLsbD 6 }

/-- The flags a shift or rotate writes (R170 to R173): the bit shifted out, Z and N from the 8-bit result. -/
def withShift (out : Bool) (r : Byte) (p : Status) : Status := withZN r { p with c := out }

end Sys2Proof.Machine
end

