-- ==== Sys2Proof/Machine/Ops.lean ====
section
/-! DEFINITION. The named operations over registers, memory and the bus (20_memory.md), taking an interrupt and
returning from one (60_exceptions.md), and the reset sequence (70_reset_and_hazards.md). -/

/-! The `Bus` parameter from the accesses it has seen (R51, R62). -/

namespace Sys2Proof

section
variable {BusState : Type} (B : Bus BusState)

/-- The bus state after one more access. -/
def Bus.access (b : BusState) : BusAccess → BusState
  | .read a => (B.read b a).1
  | .write a v => B.write b a v

/-- The bus state after a list of accesses, newest first: "Each access sees the bus state left by every earlier access"
(R62). -/
def Bus.after : List BusAccess → BusState
  | [] => B.start
  | e :: h => B.access (Bus.after h) e

/-- The byte the bus answers to a read after those accesses. -/
def Bus.answer (h : List BusAccess) (a : Word) : Byte := (B.read (B.after h) a).2

end

end Sys2Proof

namespace Sys2Proof.Machine

/-! Register writes, one per field (R20 to R42). -/

def State.setA (v : Byte) (s : State) : State := { s with a := v }
def State.setX (v : Byte) (s : State) : State := { s with x := v }
def State.setY (v : Byte) (s : State) : State := { s with y := v }
def State.setSp (v : Byte) (s : State) : State := { s with sp := v }
def State.setPc (v : Word) (s : State) : State := { s with pc := v }
def State.setP (v : Status) (s : State) : State := { s with p := v }
def State.setOpcode (v : Byte) (s : State) : State := { s with opcode := v }
def State.setFetched (v : Byte) (s : State) : State := { s with fetched := v }
def State.setAddrAbs (v : Word) (s : State) : State := { s with addrAbs := v }
def State.setAddrRel (v : Word) (s : State) : State := { s with addrRel := v }
def State.setTemp (v : Word) (s : State) : State := { s with temp := v }
def State.setCycles (v : Byte) (s : State) : State := { s with cycles := v }
def State.setNmiPending (v : Bool) (s : State) : State := { s with nmiPending := v }
def State.setMem (v : Memory) (s : State) : State := { s with mem := v }
def State.setBusMap (v : List Window) (s : State) : State := { s with busMap := v }
def State.logAccess (v : BusAccess) (s : State) : State := { s with busLog := v :: s.busLog }
def State.setHostCalls (v : List HostCall) (s : State) : State := { s with hostCalls := v }

/-! Memory: the contents of the plain-RAM addresses. -/

/-- The byte at an address; an unlisted address reads `unlistedByte`. -/
def memRead : Memory → Nat → Byte
  | [], _ => unlistedByte
  | (k, b) :: m, a => if k = a then b else memRead m a

/-- The list that begins with `(a, v)`, or without an entry when `v` is what an unlisted address reads as. -/
def memCons (a : Nat) (v : Byte) (m : Memory) : Memory :=
  if v = unlistedByte then m else (a, v) :: m

/-- The memory after a byte is written: the canonical form is kept. -/
def memWrite : Memory → Nat → Byte → Memory
  | [], a, v => memCons a v []
  | (k, b) :: m, a, v =>
    if a < k then memCons a v ((k, b) :: m)
    else if a = k then memCons a v m
    else (k, b) :: memWrite m a v

/-- Canonical from `lo` on: addresses strictly rising, inside the 16-bit space (R50), no entry equal to what an
unlisted address reads as. -/
def memWfFrom : Nat → Memory → Bool
  | _, [] => true
  | lo, (k, b) :: m => decide (lo ≤ k) && decide (k < 0x10000) && (b != unlistedByte) && memWfFrom (k + 1) m

/-- The canonical form of a memory, so that equal memories are equal data. -/
def Memory.wf (m : Memory) : Bool := memWfFrom 0 m

/-! The bus port (R50 to R52). -/

/-- The target of an address: the first window that holds it, else plain RAM. -/
def targetIn : List Window → Word → BusTarget
  | [], _ => .ram
  | w :: ws, a => if w.first ≤ a ∧ a ≤ w.last then w.target else targetIn ws a

/-- What answers at an address (R51, R52, R60). -/
def State.target (s : State) (a : Word) : BusTarget := targetIn s.busMap a

/-- A read on the bus `B`. Plain RAM answers its byte and nothing changes (R51). Anywhere else `B` answers, from its
state after every access before, and may change its state: the access is listed (R51, R52). -/
def busReadOn {BusState : Type} (B : Bus BusState) (a : Word) (s : State) : Byte × State :=
  match s.target a with
  | .ram => (memRead s.mem a.toNat, s)
  | .unmapped | .device => (B.answer s.busLog a, s.logAccess (.read a))

/-- `MemRead(addr, 1)` (R50), on the `Bus` parameter. -/
def busRead (a : Word) (s : State) : Byte × State := busReadOn Config.bus a s

/-- `MemWrite(addr, 1, v)` (R50). The bus sees every write, one to plain RAM too (R51, R62), but for a write to an
unmapped address, which is silently dropped (R52). -/
def busWrite (a : Word) (v : Byte) (s : State) : State :=
  match s.target a with
  | .ram => (s.setMem (memWrite s.mem a.toNat v)).logAccess (.write a v)
  | .unmapped => s
  | .device => s.logAccess (.write a v)

/-- `Read16(addr)` (R53): little-endian, the low byte read first. -/
def read16 (a : Word) (s : State) : Word × State :=
  let lo := busRead a s
  let hi := busRead (a + 1#16) lo.2
  (joinBytes hi.1 lo.1, hi.2)

/-! The stack (R58). -/

/-- The address of the stack byte at offset `sp`: 0x0100 + SP. -/
def stackAddr (sp : Byte) : Word := 0x0100#16 + sp.setWidth 16

/-- `Push(v)` (R58): write, then decrement SP mod 2^8. -/
def push (v : Byte) (s : State) : State :=
  let s := busWrite (stackAddr s.sp) v s
  s.setSp (s.sp - 1#8)

/-- `Pull()` (R58): increment SP mod 2^8, then read. -/
def pull (s : State) : Byte × State :=
  let s := s.setSp (s.sp + 1#8)
  busRead (stackAddr s.sp) s

/-- Two pulls, low byte first (R182, R183). -/
def pullWord (s : State) : Word × State :=
  let lo := pull s
  let hi := pull lo.2
  (joinBytes hi.1 lo.1, hi.2)

/-- Push a word, high byte first (R181, R184, R306). -/
def pushWord (w : Word) (s : State) : State := push (lowByte w) (push (highByte w) s)

/-! Taking an interrupt and returning from one. -/

/-- What BRK, IRQ and NMI share (R184, R306): push PC and the status byte with bit 4 as `brk` says, set I, load PC
from the vector. -/
def enterInterrupt (brk : Bool) (vector : Word) (s : State) : State :=
  let s := pushWord s.pc s
  let s := push (pushedStatus brk s.p) s
  let s := s.setP { s.p with i := true }
  let target := read16 vector s
  target.2.setPc target.1

/-- `Interrupt(vector)` (R306), the entry of IRQ and NMI. -/
def interrupt (vector : Word) (s : State) : State :=
  (enterInterrupt false vector s).setCycles Config.intCycles

/-- The return from an interrupt (R183, R307): SetP of the pulled byte, then B <- 0, then PC with no increment. -/
def returnFromInterrupt (s : State) : State :=
  let flags := pull s
  let s := flags.2.setP { statusOf flags.1 with b := false }
  let ret := pullWord s
  ret.2.setPc ret.1

/-! The host's operations that take no tick (R268). -/

/-- `reset()` (R341). The bus keeps what it holds; the host's coming calls are the host's. -/
def hostReset (s : State) : State :=
  let target := read16 Config.resetVector s
  { target.2 with
    pc := target.1
    a := Config.resetAxy
    x := Config.resetAxy
    y := Config.resetAxy
    sp := Config.resetSp
    p := Status.reset
    opcode := 0x00#8
    fetched := 0x00#8
    addrAbs := 0x0000#16
    addrRel := 0x0000#16
    temp := 0x0000#16
    nmiPending := false
    cycles := Config.resetCycles }

/-- `nmi()` (R304): latch the request; it takes no time. -/
def hostNmi (s : State) : State := s.setNmiPending true

/-! Placing an instruction where the next step fetches it. -/

/-- The state with a byte placed at an address, the address made plain RAM if it is not. -/
def placeByte (a : Word) (v : Byte) (s : State) : State :=
  let s := if s.target a = .ram then s else s.setBusMap ({ first := a, last := a, target := .ram } :: s.busMap)
  s.setMem (memWrite s.mem a.toNat v)

/-- The state whose next step fetches and runs the instruction with the bits `w` (the first `nbits` of them) at PC:
at an instruction boundary, no NMI pending, the host about to tick with irq = 0 (notes/assumptions/18.md). -/
def placeInstruction (nbits w : Nat) (s : State) : State :=
  let s := placeByte s.pc (tableByte nbits w 0) s
  let s := placeByte (s.pc + 1#16) (tableByte nbits w 1) s
  let s := placeByte (s.pc + 2#16) (tableByte nbits w 2) s
  ((s.setCycles 0#8).setNmiPending false).setHostCalls []

end Sys2Proof.Machine
end

