-- ==== Sys2Proof/Machine/Operands.lean ====
section
/-! DEFINITION. The twelve addressing-mode resolvers and the operand read (41_addressing_modes.md). The operand bytes
were read by the fetch, in the same place in the order of accesses (notes/assumptions/7.md); a resolver advances PC
past them. -/

namespace Sys2Proof.Machine

/-- An indexed address and its extra-cycle request (R119, R120, R123): the sum mod 2^16, and whether its high byte
differs from the unindexed one. -/
def indexed (base : Word) (index : Byte) : Bool × Word :=
  let ea := base + index.setWidth 16
  (highByte ea != highByte base, ea)

/-- The two bytes of a page-0 pointer, the second read wrapping within page 0 (R122, R123). -/
def readZeroPagePointer (t : Byte) (s : State) : Word × State :=
  let lo := busRead (zeroPage t) s
  let hi := busRead (zeroPage (t + 1#8)) lo.2
  (joinBytes hi.1 lo.1, hi.2)

/-- The target of an indirect jump (R121), with the page-wrap defect. -/
def readIndirect (ptr : Word) (s : State) : Word × State :=
  let lo := busRead ptr s
  let hi := busRead (joinBytes (highByte ptr) (lowByte ptr + 1#8)) lo.2
  (joinBytes hi.1 lo.1, hi.2)

/-- A resolver (R110): the extra-cycle request and the state after it. On entry PC is the address of the first operand
byte. -/
def resolve (o : Operand) (s : State) : Bool × State :=
  match o with
  | .imp => (false, s.setFetched s.a)
  | .imm _ => (false, (s.setAddrAbs s.pc).setPc (s.pc + 1#16))
  | .skipped => (false, (s.setAddrAbs s.pc).setPc (s.pc + 1#16))
  | .zp b => (false, (s.setPc (s.pc + 1#16)).setAddrAbs (zeroPage b))
  | .zpx b => (false, (s.setPc (s.pc + 1#16)).setAddrAbs (zeroPage (b + s.x)))
  | .zpy b => (false, (s.setPc (s.pc + 1#16)).setAddrAbs (zeroPage (b + s.y)))
  | .rel b => (false, (s.setPc (s.pc + 1#16)).setAddrRel (signExtend b))
  | .abs w => (false, (s.setPc (s.pc + 2#16)).setAddrAbs w)
  | .abx w => ((indexed w s.x).1, (s.setPc (s.pc + 2#16)).setAddrAbs (indexed w s.x).2)
  | .aby w => ((indexed w s.y).1, (s.setPc (s.pc + 2#16)).setAddrAbs (indexed w s.y).2)
  | .ind w =>
    let t := readIndirect w (s.setPc (s.pc + 2#16))
    (false, t.2.setAddrAbs t.1)
  | .izx b =>
    let t := readZeroPagePointer (b + s.x) (s.setPc (s.pc + 1#16))
    (false, t.2.setAddrAbs t.1)
  | .izy b =>
    let t := readZeroPagePointer b (s.setPc (s.pc + 1#16))
    ((indexed t.1 s.y).1, t.2.setAddrAbs (indexed t.1 s.y).2)

/-- `FetchOperand()` (R111). For IMP `fetched` already holds A; for IMM the byte at `addr_abs` is the operand byte the
fetch has read (notes/assumptions/7.md). -/
def fetchOperand (o : Operand) (s : State) : Byte × State :=
  match o with
  | .imp => (s.fetched, s)
  | .imm v => (v, s.setFetched v)
  | _ =>
    let r := busRead s.addrAbs s
    (r.1, r.2.setFetched r.1)

/-- `WriteBack(v)` (R174): to A when the mode is IMP, else to `addr_abs`. -/
def writeBack (o : Operand) (v : Byte) (s : State) : State :=
  match o with
  | .imp => s.setA v
  | _ => busWrite s.addrAbs v s

/-- A handler: what it does to the state, and the value h it returns (R10). -/
abbrev HandlerFn := Operand → State → Bool × State

/-- The body of `Step()` after the fetch (R262): the base cost, the resolver, the handler, then `cycles + (r & h)`. -/
def runInstr (base : Byte) (o : Operand) (h : HandlerFn) (s : State) : Result :=
  let r := resolve o (s.setCycles base)
  let e := h o r.2
  .next (e.2.setCycles (e.2.cycles + if r.1 && e.1 then 1#8 else 0#8))

end Sys2Proof.Machine
end

