-- ==== Sys2Proof/Machine/Alu.lean ====
section
/-! DEFINITION. Arithmetic, logic, compare, increment and decrement (47_alu.md). D changes no result (R220). -/

namespace Sys2Proof.Machine

/-- What ADC and SBC share (R221, R222): the 9-bit sum of A, `m` and C in `temp`, the flags, A. -/
def addToA (m : Byte) (s : State) : State :=
  let t := sum9 s.a m s.p.c
  ((s.setTemp t).setP (withSum s.a m s.p)).setA (t.setWidth 8)

/-- ADC (R221). -/
def opAdc : HandlerFn := fun o s =>
  let m := fetchOperand o s
  (true, addToA m.1 m.2)

/-- SBC (R222): ADC of the one's complement; `fetched` keeps the unmodified byte. -/
def opSbc : HandlerFn := fun o s =>
  let m := fetchOperand o s
  (true, addToA (m.1 ^^^ 0xFF#8) m.2)

/-- A logic result to A, with Z and N from it (R223 to R225). -/
def logicToA (v : Byte) (s : State) : State := (s.setA v).setP (withZN v s.p)

/-- AND (R223). -/
def opAnd : HandlerFn := fun o s =>
  let m := fetchOperand o s
  (true, logicToA (m.2.a &&& m.1) m.2)

/-- ORA (R224). -/
def opOra : HandlerFn := fun o s =>
  let m := fetchOperand o s
  (true, logicToA (m.2.a ||| m.1) m.2)

/-- EOR (R225). -/
def opEor : HandlerFn := fun o s =>
  let m := fetchOperand o s
  (true, logicToA (m.2.a ^^^ m.1) m.2)

/-- BIT (R226). -/
def opBit : HandlerFn := fun o s =>
  let m := fetchOperand o s
  (false, (m.2.setTemp ((m.2.a &&& m.1).setWidth 16)).setP (withBit m.2.a m.1 m.2.p))

/-- Compare(r) (R227), once M is read. -/
def compareWith (r m : Byte) (s : State) : State :=
  (s.setTemp (difference r m)).setP (withCompare r m s.p)

/-- CMP (R228). -/
def opCmp : HandlerFn := fun o s =>
  let m := fetchOperand o s
  (true, compareWith m.2.a m.1 m.2)

/-- CPX (R229). -/
def opCpx : HandlerFn := fun o s =>
  let m := fetchOperand o s
  (false, compareWith m.2.x m.1 m.2)

/-- CPY (R230). -/
def opCpy : HandlerFn := fun o s =>
  let m := fetchOperand o s
  (false, compareWith m.2.y m.1 m.2)

/-- A 16-bit result to `temp`, its low byte to memory at `addr_abs`, then Z and N from that byte (R231, R232). -/
def storeResult (t : Word) (s : State) : State :=
  let s := busWrite s.addrAbs (t.setWidth 8) (s.setTemp t)
  s.setP (withZN (t.setWidth 8) s.p)

/-- INC (R231). -/
def opInc : HandlerFn := fun o s =>
  let m := fetchOperand o s
  (false, storeResult (m.1.setWidth 16 + 1#16) m.2)

/-- DEC (R232). -/
def opDec : HandlerFn := fun o s =>
  let m := fetchOperand o s
  (false, storeResult (m.1.setWidth 16 - 1#16) m.2)

/-- INX (R233). -/
def opInx : HandlerFn := fun _ s => (false, (s.setX (s.x + 1#8)).setP (withZN (s.x + 1#8) s.p))

/-- INY (R234). -/
def opIny : HandlerFn := fun _ s => (false, (s.setY (s.y + 1#8)).setP (withZN (s.y + 1#8) s.p))

/-- DEX (R235). -/
def opDex : HandlerFn := fun _ s => (false, (s.setX (s.x - 1#8)).setP (withZN (s.x - 1#8) s.p))

/-- DEY (R236). -/
def opDey : HandlerFn := fun _ s => (false, (s.setY (s.y - 1#8)).setP (withZN (s.y - 1#8) s.p))

/-- ADC IZX, 0x61 (R221). -/
def execAdcIzx (b : Byte) (s : State) : Result := runInstr 6#8 (.izx b) opAdc s
/-- ADC ZP, 0x65 (R221). -/
def execAdcZp (b : Byte) (s : State) : Result := runInstr 3#8 (.zp b) opAdc s
/-- ADC IMM, 0x69 (R221). -/
def execAdcImm (v : Byte) (s : State) : Result := runInstr 2#8 (.imm v) opAdc s
/-- ADC ABS, 0x6D (R221). -/
def execAdcAbs (w : Word) (s : State) : Result := runInstr 4#8 (.abs w) opAdc s
/-- ADC IZY, 0x71 (R221). -/
def execAdcIzy (b : Byte) (s : State) : Result := runInstr 5#8 (.izy b) opAdc s
/-- ADC ZPX, 0x75 (R221). -/
def execAdcZpx (b : Byte) (s : State) : Result := runInstr 4#8 (.zpx b) opAdc s
/-- ADC ABY, 0x79 (R221). -/
def execAdcAby (w : Word) (s : State) : Result := runInstr 4#8 (.aby w) opAdc s
/-- ADC ABX, 0x7D (R221). -/
def execAdcAbx (w : Word) (s : State) : Result := runInstr 4#8 (.abx w) opAdc s
/-- SBC IZX, 0xE1 (R222). -/
def execSbcIzx (b : Byte) (s : State) : Result := runInstr 6#8 (.izx b) opSbc s
/-- SBC ZP, 0xE5 (R222). -/
def execSbcZp (b : Byte) (s : State) : Result := runInstr 3#8 (.zp b) opSbc s
/-- SBC IMM, 0xE9 (R222). -/
def execSbcImm (v : Byte) (s : State) : Result := runInstr 2#8 (.imm v) opSbc s
/-- SBC ABS, 0xED (R222). -/
def execSbcAbs (w : Word) (s : State) : Result := runInstr 4#8 (.abs w) opSbc s
/-- SBC IZY, 0xF1 (R222). -/
def execSbcIzy (b : Byte) (s : State) : Result := runInstr 5#8 (.izy b) opSbc s
/-- SBC ZPX, 0xF5 (R222). -/
def execSbcZpx (b : Byte) (s : State) : Result := runInstr 4#8 (.zpx b) opSbc s
/-- SBC ABY, 0xF9 (R222). -/
def execSbcAby (w : Word) (s : State) : Result := runInstr 4#8 (.aby w) opSbc s
/-- SBC ABX, 0xFD (R222). -/
def execSbcAbx (w : Word) (s : State) : Result := runInstr 4#8 (.abx w) opSbc s
/-- AND IZX, 0x21 (R223). -/
def execAndIzx (b : Byte) (s : State) : Result := runInstr 6#8 (.izx b) opAnd s
/-- AND ZP, 0x25 (R223). -/
def execAndZp (b : Byte) (s : State) : Result := runInstr 3#8 (.zp b) opAnd s
/-- AND IMM, 0x29 (R223). -/
def execAndImm (v : Byte) (s : State) : Result := runInstr 2#8 (.imm v) opAnd s
/-- AND ABS, 0x2D (R223). -/
def execAndAbs (w : Word) (s : State) : Result := runInstr 4#8 (.abs w) opAnd s
/-- AND IZY, 0x31 (R223). -/
def execAndIzy (b : Byte) (s : State) : Result := runInstr 5#8 (.izy b) opAnd s
/-- AND ZPX, 0x35 (R223). -/
def execAndZpx (b : Byte) (s : State) : Result := runInstr 4#8 (.zpx b) opAnd s
/-- AND ABY, 0x39 (R223). -/
def execAndAby (w : Word) (s : State) : Result := runInstr 4#8 (.aby w) opAnd s
/-- AND ABX, 0x3D (R223). -/
def execAndAbx (w : Word) (s : State) : Result := runInstr 4#8 (.abx w) opAnd s
/-- ORA IZX, 0x01 (R224). -/
def execOraIzx (b : Byte) (s : State) : Result := runInstr 6#8 (.izx b) opOra s
/-- ORA ZP, 0x05 (R224). -/
def execOraZp (b : Byte) (s : State) : Result := runInstr 3#8 (.zp b) opOra s
/-- ORA IMM, 0x09 (R224). -/
def execOraImm (v : Byte) (s : State) : Result := runInstr 2#8 (.imm v) opOra s
/-- ORA ABS, 0x0D (R224). -/
def execOraAbs (w : Word) (s : State) : Result := runInstr 4#8 (.abs w) opOra s
/-- ORA IZY, 0x11 (R224). -/
def execOraIzy (b : Byte) (s : State) : Result := runInstr 5#8 (.izy b) opOra s
/-- ORA ZPX, 0x15 (R224). -/
def execOraZpx (b : Byte) (s : State) : Result := runInstr 4#8 (.zpx b) opOra s
/-- ORA ABY, 0x19 (R224). -/
def execOraAby (w : Word) (s : State) : Result := runInstr 4#8 (.aby w) opOra s
/-- ORA ABX, 0x1D (R224). -/
def execOraAbx (w : Word) (s : State) : Result := runInstr 4#8 (.abx w) opOra s
/-- EOR IZX, 0x41 (R225). -/
def execEorIzx (b : Byte) (s : State) : Result := runInstr 6#8 (.izx b) opEor s
/-- EOR ZP, 0x45 (R225). -/
def execEorZp (b : Byte) (s : State) : Result := runInstr 3#8 (.zp b) opEor s
/-- EOR IMM, 0x49 (R225). -/
def execEorImm (v : Byte) (s : State) : Result := runInstr 2#8 (.imm v) opEor s
/-- EOR ABS, 0x4D (R225). -/
def execEorAbs (w : Word) (s : State) : Result := runInstr 4#8 (.abs w) opEor s
/-- EOR IZY, 0x51 (R225). -/
def execEorIzy (b : Byte) (s : State) : Result := runInstr 5#8 (.izy b) opEor s
/-- EOR ZPX, 0x55 (R225). -/
def execEorZpx (b : Byte) (s : State) : Result := runInstr 4#8 (.zpx b) opEor s
/-- EOR ABY, 0x59 (R225). -/
def execEorAby (w : Word) (s : State) : Result := runInstr 4#8 (.aby w) opEor s
/-- EOR ABX, 0x5D (R225). -/
def execEorAbx (w : Word) (s : State) : Result := runInstr 4#8 (.abx w) opEor s
/-- BIT ZP, 0x24 (R226). -/
def execBitZp (b : Byte) (s : State) : Result := runInstr 3#8 (.zp b) opBit s
/-- BIT ABS, 0x2C (R226). -/
def execBitAbs (w : Word) (s : State) : Result := runInstr 4#8 (.abs w) opBit s
/-- CMP IZX, 0xC1 (R228). -/
def execCmpIzx (b : Byte) (s : State) : Result := runInstr 6#8 (.izx b) opCmp s
/-- CMP ZP, 0xC5 (R228). -/
def execCmpZp (b : Byte) (s : State) : Result := runInstr 3#8 (.zp b) opCmp s
/-- CMP IMM, 0xC9 (R228). -/
def execCmpImm (v : Byte) (s : State) : Result := runInstr 2#8 (.imm v) opCmp s
/-- CMP ABS, 0xCD (R228). -/
def execCmpAbs (w : Word) (s : State) : Result := runInstr 4#8 (.abs w) opCmp s
/-- CMP IZY, 0xD1 (R228). -/
def execCmpIzy (b : Byte) (s : State) : Result := runInstr 5#8 (.izy b) opCmp s
/-- CMP ZPX, 0xD5 (R228). -/
def execCmpZpx (b : Byte) (s : State) : Result := runInstr 4#8 (.zpx b) opCmp s
/-- CMP ABY, 0xD9 (R228). -/
def execCmpAby (w : Word) (s : State) : Result := runInstr 4#8 (.aby w) opCmp s
/-- CMP ABX, 0xDD (R228). -/
def execCmpAbx (w : Word) (s : State) : Result := runInstr 4#8 (.abx w) opCmp s
/-- CPX IMM, 0xE0 (R229). -/
def execCpxImm (v : Byte) (s : State) : Result := runInstr 2#8 (.imm v) opCpx s
/-- CPX ZP, 0xE4 (R229). -/
def execCpxZp (b : Byte) (s : State) : Result := runInstr 3#8 (.zp b) opCpx s
/-- CPX ABS, 0xEC (R229). -/
def execCpxAbs (w : Word) (s : State) : Result := runInstr 4#8 (.abs w) opCpx s
/-- CPY IMM, 0xC0 (R230). -/
def execCpyImm (v : Byte) (s : State) : Result := runInstr 2#8 (.imm v) opCpy s
/-- CPY ZP, 0xC4 (R230). -/
def execCpyZp (b : Byte) (s : State) : Result := runInstr 3#8 (.zp b) opCpy s
/-- CPY ABS, 0xCC (R230). -/
def execCpyAbs (w : Word) (s : State) : Result := runInstr 4#8 (.abs w) opCpy s
/-- INC ZP, 0xE6 (R231). -/
def execIncZp (b : Byte) (s : State) : Result := runInstr 5#8 (.zp b) opInc s
/-- INC ABS, 0xEE (R231). -/
def execIncAbs (w : Word) (s : State) : Result := runInstr 6#8 (.abs w) opInc s
/-- INC ZPX, 0xF6 (R231). -/
def execIncZpx (b : Byte) (s : State) : Result := runInstr 6#8 (.zpx b) opInc s
/-- INC ABX, 0xFE (R231). -/
def execIncAbx (w : Word) (s : State) : Result := runInstr 7#8 (.abx w) opInc s
/-- DEC ZP, 0xC6 (R232). -/
def execDecZp (b : Byte) (s : State) : Result := runInstr 5#8 (.zp b) opDec s
/-- DEC ABS, 0xCE (R232). -/
def execDecAbs (w : Word) (s : State) : Result := runInstr 6#8 (.abs w) opDec s
/-- DEC ZPX, 0xD6 (R232). -/
def execDecZpx (b : Byte) (s : State) : Result := runInstr 6#8 (.zpx b) opDec s
/-- DEC ABX, 0xDE (R232). -/
def execDecAbx (w : Word) (s : State) : Result := runInstr 7#8 (.abx w) opDec s
/-- INX IMP, 0xE8 (R233). -/
def execInx (s : State) : Result := runInstr 2#8 .imp opInx s
/-- INY IMP, 0xC8 (R234). -/
def execIny (s : State) : Result := runInstr 2#8 .imp opIny s
/-- DEX IMP, 0xCA (R235). -/
def execDex (s : State) : Result := runInstr 2#8 .imp opDex s
/-- DEY IMP, 0x88 (R236). -/
def execDey (s : State) : Result := runInstr 2#8 .imp opDey s

end Sys2Proof.Machine
end

