-- ==== Sys2Proof/Machine/Control.lean ====
section
/-! DEFINITION. Control transfer (45_control_flow.md). PC is the address of the byte after the whole instruction when
a handler runs (R24). -/

namespace Sys2Proof.Machine

/-- JMP (R180). -/
def opJmp : HandlerFn := fun _ s => (false, s.setPc s.addrAbs)

/-- JSR (R181): pushes PC - 1, high byte first. -/
def opJsr : HandlerFn := fun _ s =>
  let s := pushWord (s.pc - 1#16) s
  (false, s.setPc s.addrAbs)

/-- RTS (R182). -/
def opRts : HandlerFn := fun _ s =>
  let r := pullWord s
  (false, r.2.setPc (r.1 + 1#16))

/-- RTI (R183). -/
def opRti : HandlerFn := fun _ s => (false, returnFromInterrupt s)

/-- BRK (R184): the interrupt entry with bit 4 set in the pushed byte; no write of `cycles`. -/
def opBrk : HandlerFn := fun _ s => (false, enterInterrupt true Config.irqVector s)

/-- Branch(cond) (R185): a taken branch adds 1 to `cycles`, and 1 more when its target is in another page than the
next instruction. -/
def branch (cond : Bool) (s : State) : State :=
  if cond then
    let target := s.pc + s.addrRel
    let extra := if highByte target = highByte s.pc then 1#8 else 2#8
    ((s.setCycles (s.cycles + extra)).setAddrAbs target).setPc target
  else s

/-- BCC (R186). -/
def opBcc : HandlerFn := fun _ s => (false, branch (!s.p.c) s)

/-- BCS (R187). -/
def opBcs : HandlerFn := fun _ s => (false, branch s.p.c s)

/-- BEQ (R188). -/
def opBeq : HandlerFn := fun _ s => (false, branch s.p.z s)

/-- BMI (R189). -/
def opBmi : HandlerFn := fun _ s => (false, branch s.p.n s)

/-- BNE (R190). -/
def opBne : HandlerFn := fun _ s => (false, branch (!s.p.z) s)

/-- BPL (R191). -/
def opBpl : HandlerFn := fun _ s => (false, branch (!s.p.n) s)

/-- BVC (R192). -/
def opBvc : HandlerFn := fun _ s => (false, branch (!s.p.v) s)

/-- BVS (R193). -/
def opBvs : HandlerFn := fun _ s => (false, branch s.p.v s)

/-- JMP ABS, 0x4C (R180). -/
def execJmpAbs (w : Word) (s : State) : Result := runInstr 3#8 (.abs w) opJmp s
/-- JMP IND, 0x6C (R180). -/
def execJmpInd (w : Word) (s : State) : Result := runInstr 5#8 (.ind w) opJmp s
/-- JSR ABS, 0x20 (R181). -/
def execJsr (w : Word) (s : State) : Result := runInstr 6#8 (.abs w) opJsr s
/-- RTS IMP, 0x60 (R182). -/
def execRts (s : State) : Result := runInstr 6#8 .imp opRts s
/-- RTI IMP, 0x40 (R183). -/
def execRti (s : State) : Result := runInstr 6#8 .imp opRti s
/-- BRK IMM, 0x00 (R184). -/
def execBrk (s : State) : Result := runInstr 7#8 .skipped opBrk s
/-- BCC REL, 0x90 (R186). -/
def execBcc (b : Byte) (s : State) : Result := runInstr 2#8 (.rel b) opBcc s
/-- BCS REL, 0xB0 (R187). -/
def execBcs (b : Byte) (s : State) : Result := runInstr 2#8 (.rel b) opBcs s
/-- BEQ REL, 0xF0 (R188). -/
def execBeq (b : Byte) (s : State) : Result := runInstr 2#8 (.rel b) opBeq s
/-- BMI REL, 0x30 (R189). -/
def execBmi (b : Byte) (s : State) : Result := runInstr 2#8 (.rel b) opBmi s
/-- BNE REL, 0xD0 (R190). -/
def execBne (b : Byte) (s : State) : Result := runInstr 2#8 (.rel b) opBne s
/-- BPL REL, 0x10 (R191). -/
def execBpl (b : Byte) (s : State) : Result := runInstr 2#8 (.rel b) opBpl s
/-- BVC REL, 0x50 (R192). -/
def execBvc (b : Byte) (s : State) : Result := runInstr 2#8 (.rel b) opBvc s
/-- BVS REL, 0x70 (R193). -/
def execBvs (b : Byte) (s : State) : Result := runInstr 2#8 (.rel b) opBvs s

end Sys2Proof.Machine
end

