-- ==== Sys2Proof/Machine/FlagOps.lean ====
section
/-! DEFINITION. Flag set and clear instructions (46_flag_ops.md). -/

namespace Sys2Proof.Machine

/-- CLC (R210). -/
def opClc : HandlerFn := fun _ s => (false, s.setP { s.p with c := false })

/-- CLD (R211). -/
def opCld : HandlerFn := fun _ s => (false, s.setP { s.p with d := false })

/-- CLI (R212). -/
def opCli : HandlerFn := fun _ s => (false, s.setP { s.p with i := false })

/-- CLV (R213). -/
def opClv : HandlerFn := fun _ s => (false, s.setP { s.p with v := false })

/-- SEC (R214). -/
def opSec : HandlerFn := fun _ s => (false, s.setP { s.p with c := true })

/-- SED (R215). -/
def opSed : HandlerFn := fun _ s => (false, s.setP { s.p with d := true })

/-- SEI (R216). -/
def opSei : HandlerFn := fun _ s => (false, s.setP { s.p with i := true })

/-- CLC IMP, 0x18 (R210). -/
def execClc (s : State) : Result := runInstr 2#8 .imp opClc s
/-- CLD IMP, 0xD8 (R211). -/
def execCld (s : State) : Result := runInstr 2#8 .imp opCld s
/-- CLI IMP, 0x58 (R212). -/
def execCli (s : State) : Result := runInstr 2#8 .imp opCli s
/-- CLV IMP, 0xB8 (R213). -/
def execClv (s : State) : Result := runInstr 2#8 .imp opClv s
/-- SEC IMP, 0x38 (R214). -/
def execSec (s : State) : Result := runInstr 2#8 .imp opSec s
/-- SED IMP, 0xF8 (R215). -/
def execSed (s : State) : Result := runInstr 2#8 .imp opSed s
/-- SEI IMP, 0x78 (R216). -/
def execSei (s : State) : Result := runInstr 2#8 .imp opSei s

end Sys2Proof.Machine
end

