-- ==== Sys2Proof/Machine/LoadStore.lean ====
section
/-! DEFINITION. Loads, stores and transfers (42_load_store_transfer.md). -/

namespace Sys2Proof.Machine

/-- LDA (R140). -/
def opLda : HandlerFn := fun o s =>
  let m := fetchOperand o s
  (true, (m.2.setA m.1).setP (withZN m.1 m.2.p))

/-- LDX (R141). -/
def opLdx : HandlerFn := fun o s =>
  let m := fetchOperand o s
  (true, (m.2.setX m.1).setP (withZN m.1 m.2.p))

/-- LDY (R142). -/
def opLdy : HandlerFn := fun o s =>
  let m := fetchOperand o s
  (true, (m.2.setY m.1).setP (withZN m.1 m.2.p))

/-- STA (R143). -/
def opSta : HandlerFn := fun _ s => (false, busWrite s.addrAbs s.a s)

/-- STX (R144). -/
def opStx : HandlerFn := fun _ s => (false, busWrite s.addrAbs s.x s)

/-- STY (R145). -/
def opSty : HandlerFn := fun _ s => (false, busWrite s.addrAbs s.y s)

/-- TAX (R146). -/
def opTax : HandlerFn := fun _ s => (false, (s.setX s.a).setP (withZN s.a s.p))

/-- TAY (R147). -/
def opTay : HandlerFn := fun _ s => (false, (s.setY s.a).setP (withZN s.a s.p))

/-- TXA (R148). -/
def opTxa : HandlerFn := fun _ s => (false, (s.setA s.x).setP (withZN s.x s.p))

/-- TYA (R149). -/
def opTya : HandlerFn := fun _ s => (false, (s.setA s.y).setP (withZN s.y s.p))

/-- TSX (R150). -/
def opTsx : HandlerFn := fun _ s => (false, (s.setX s.sp).setP (withZN s.sp s.p))

/-- TXS (R151). -/
def opTxs : HandlerFn := fun _ s => (false, s.setSp s.x)

/-- LDA IZX, 0xA1 (R140). -/
def execLdaIzx (b : Byte) (s : State) : Result := runInstr 6#8 (.izx b) opLda s
/-- LDA ZP, 0xA5 (R140). -/
def execLdaZp (b : Byte) (s : State) : Result := runInstr 3#8 (.zp b) opLda s
/-- LDA IMM, 0xA9 (R140). -/
def execLdaImm (v : Byte) (s : State) : Result := runInstr 2#8 (.imm v) opLda s
/-- LDA ABS, 0xAD (R140). -/
def execLdaAbs (w : Word) (s : State) : Result := runInstr 4#8 (.abs w) opLda s
/-- LDA IZY, 0xB1 (R140). -/
def execLdaIzy (b : Byte) (s : State) : Result := runInstr 5#8 (.izy b) opLda s
/-- LDA ZPX, 0xB5 (R140). -/
def execLdaZpx (b : Byte) (s : State) : Result := runInstr 4#8 (.zpx b) opLda s
/-- LDA ABY, 0xB9 (R140). -/
def execLdaAby (w : Word) (s : State) : Result := runInstr 4#8 (.aby w) opLda s
/-- LDA ABX, 0xBD (R140). -/
def execLdaAbx (w : Word) (s : State) : Result := runInstr 4#8 (.abx w) opLda s
/-- LDX IMM, 0xA2 (R141). -/
def execLdxImm (v : Byte) (s : State) : Result := runInstr 2#8 (.imm v) opLdx s
/-- LDX ZP, 0xA6 (R141). -/
def execLdxZp (b : Byte) (s : State) : Result := runInstr 3#8 (.zp b) opLdx s
/-- LDX ABS, 0xAE (R141). -/
def execLdxAbs (w : Word) (s : State) : Result := runInstr 4#8 (.abs w) opLdx s
/-- LDX ZPY, 0xB6 (R141). -/
def execLdxZpy (b : Byte) (s : State) : Result := runInstr 4#8 (.zpy b) opLdx s
/-- LDX ABY, 0xBE (R141). -/
def execLdxAby (w : Word) (s : State) : Result := runInstr 4#8 (.aby w) opLdx s
/-- LDY IMM, 0xA0 (R142). -/
def execLdyImm (v : Byte) (s : State) : Result := runInstr 2#8 (.imm v) opLdy s
/-- LDY ZP, 0xA4 (R142). -/
def execLdyZp (b : Byte) (s : State) : Result := runInstr 3#8 (.zp b) opLdy s
/-- LDY ABS, 0xAC (R142). -/
def execLdyAbs (w : Word) (s : State) : Result := runInstr 4#8 (.abs w) opLdy s
/-- LDY ZPX, 0xB4 (R142). -/
def execLdyZpx (b : Byte) (s : State) : Result := runInstr 4#8 (.zpx b) opLdy s
/-- LDY ABX, 0xBC (R142). -/
def execLdyAbx (w : Word) (s : State) : Result := runInstr 4#8 (.abx w) opLdy s
/-- STA IZX, 0x81 (R143). -/
def execStaIzx (b : Byte) (s : State) : Result := runInstr 6#8 (.izx b) opSta s
/-- STA ZP, 0x85 (R143). -/
def execStaZp (b : Byte) (s : State) : Result := runInstr 3#8 (.zp b) opSta s
/-- STA ABS, 0x8D (R143). -/
def execStaAbs (w : Word) (s : State) : Result := runInstr 4#8 (.abs w) opSta s
/-- STA IZY, 0x91 (R143). -/
def execStaIzy (b : Byte) (s : State) : Result := runInstr 6#8 (.izy b) opSta s
/-- STA ZPX, 0x95 (R143). -/
def execStaZpx (b : Byte) (s : State) : Result := runInstr 4#8 (.zpx b) opSta s
/-- STA ABY, 0x99 (R143). -/
def execStaAby (w : Word) (s : State) : Result := runInstr 5#8 (.aby w) opSta s
/-- STA ABX, 0x9D (R143). -/
def execStaAbx (w : Word) (s : State) : Result := runInstr 5#8 (.abx w) opSta s
/-- STX ZP, 0x86 (R144). -/
def execStxZp (b : Byte) (s : State) : Result := runInstr 3#8 (.zp b) opStx s
/-- STX ABS, 0x8E (R144). -/
def execStxAbs (w : Word) (s : State) : Result := runInstr 4#8 (.abs w) opStx s
/-- STX ZPY, 0x96 (R144). -/
def execStxZpy (b : Byte) (s : State) : Result := runInstr 4#8 (.zpy b) opStx s
/-- STY ZP, 0x84 (R145). -/
def execStyZp (b : Byte) (s : State) : Result := runInstr 3#8 (.zp b) opSty s
/-- STY ABS, 0x8C (R145). -/
def execStyAbs (w : Word) (s : State) : Result := runInstr 4#8 (.abs w) opSty s
/-- STY ZPX, 0x94 (R145). -/
def execStyZpx (b : Byte) (s : State) : Result := runInstr 4#8 (.zpx b) opSty s
/-- TAX IMP, 0xAA (R146). -/
def execTax (s : State) : Result := runInstr 2#8 .imp opTax s
/-- TAY IMP, 0xA8 (R147). -/
def execTay (s : State) : Result := runInstr 2#8 .imp opTay s
/-- TXA IMP, 0x8A (R148). -/
def execTxa (s : State) : Result := runInstr 2#8 .imp opTxa s
/-- TYA IMP, 0x98 (R149). -/
def execTya (s : State) : Result := runInstr 2#8 .imp opTya s
/-- TSX IMP, 0xBA (R150). -/
def execTsx (s : State) : Result := runInstr 2#8 .imp opTsx s
/-- TXS IMP, 0x9A (R151). -/
def execTxs (s : State) : Result := runInstr 2#8 .imp opTxs s

end Sys2Proof.Machine
end

