-- ==== Sys2Proof/Machine/Nop.lean ====
section
/-! DEFINITION. NOP and the 105 unassigned opcodes (48_nop_illegal.md). -/

namespace Sys2Proof.Machine

/-- The opcodes for which the NOP handler requests the extra cycle (R252). The request is never charged, because their
resolver is IMP. -/
def nopRequests : List Byte := [0x1C#8, 0x3C#8, 0x5C#8, 0x7C#8, 0xDC#8, 0xFC#8]

/-- The NOP handler (R250 to R252): nothing but its return value, which it takes from `opcode` (R36). -/
def opNop : HandlerFn := fun _ s => (nopRequests.contains s.opcode, s)

/-- The no-op handler "XXX" of 77 unassigned opcodes (R251). -/
def opXxx : HandlerFn := fun _ s => (false, s)

/-- Unassigned opcode, 0x04 (R251). -/
def execUnassigned04 (s : State) : Result := runInstr 3#8 .imp opNop s
/-- Unassigned opcode, 0x0C (R251). -/
def execUnassigned0C (s : State) : Result := runInstr 4#8 .imp opNop s
/-- Unassigned opcode, 0x14 (R251). -/
def execUnassigned14 (s : State) : Result := runInstr 4#8 .imp opNop s
/-- Unassigned opcode, 0x1A (R251). -/
def execUnassigned1A (s : State) : Result := runInstr 2#8 .imp opNop s
/-- Unassigned opcode, 0x1C (R251). -/
def execUnassigned1C (s : State) : Result := runInstr 4#8 .imp opNop s
/-- Unassigned opcode, 0x34 (R251). -/
def execUnassigned34 (s : State) : Result := runInstr 4#8 .imp opNop s
/-- Unassigned opcode, 0x3A (R251). -/
def execUnassigned3A (s : State) : Result := runInstr 2#8 .imp opNop s
/-- Unassigned opcode, 0x3C (R251). -/
def execUnassigned3C (s : State) : Result := runInstr 4#8 .imp opNop s
/-- Unassigned opcode, 0x44 (R251). -/
def execUnassigned44 (s : State) : Result := runInstr 3#8 .imp opNop s
/-- Unassigned opcode, 0x54 (R251). -/
def execUnassigned54 (s : State) : Result := runInstr 4#8 .imp opNop s
/-- Unassigned opcode, 0x5A (R251). -/
def execUnassigned5A (s : State) : Result := runInstr 2#8 .imp opNop s
/-- Unassigned opcode, 0x5C (R251). -/
def execUnassigned5C (s : State) : Result := runInstr 4#8 .imp opNop s
/-- Unassigned opcode, 0x64 (R251). -/
def execUnassigned64 (s : State) : Result := runInstr 3#8 .imp opNop s
/-- Unassigned opcode, 0x74 (R251). -/
def execUnassigned74 (s : State) : Result := runInstr 4#8 .imp opNop s
/-- Unassigned opcode, 0x7A (R251). -/
def execUnassigned7A (s : State) : Result := runInstr 2#8 .imp opNop s
/-- Unassigned opcode, 0x7C (R251). -/
def execUnassigned7C (s : State) : Result := runInstr 4#8 .imp opNop s
/-- Unassigned opcode, 0x80 (R251). -/
def execUnassigned80 (s : State) : Result := runInstr 2#8 .imp opNop s
/-- Unassigned opcode, 0x82 (R251). -/
def execUnassigned82 (s : State) : Result := runInstr 2#8 .imp opNop s
/-- Unassigned opcode, 0x89 (R251). -/
def execUnassigned89 (s : State) : Result := runInstr 2#8 .imp opNop s
/-- Unassigned opcode, 0x9C (R251). -/
def execUnassigned9C (s : State) : Result := runInstr 5#8 .imp opNop s
/-- Unassigned opcode, 0xC2 (R251). -/
def execUnassignedC2 (s : State) : Result := runInstr 2#8 .imp opNop s
/-- Unassigned opcode, 0xD4 (R251). -/
def execUnassignedD4 (s : State) : Result := runInstr 4#8 .imp opNop s
/-- Unassigned opcode, 0xDA (R251). -/
def execUnassignedDA (s : State) : Result := runInstr 2#8 .imp opNop s
/-- Unassigned opcode, 0xDC (R251). -/
def execUnassignedDC (s : State) : Result := runInstr 4#8 .imp opNop s
/-- Unassigned opcode, 0xE2 (R251). -/
def execUnassignedE2 (s : State) : Result := runInstr 2#8 .imp opNop s
/-- NOP IMP, 0xEA (R250). -/
def execNop (s : State) : Result := runInstr 2#8 .imp opNop s
/-- Unassigned opcode, 0xF4 (R251). -/
def execUnassignedF4 (s : State) : Result := runInstr 4#8 .imp opNop s
/-- Unassigned opcode, 0xFA (R251). -/
def execUnassignedFA (s : State) : Result := runInstr 2#8 .imp opNop s
/-- Unassigned opcode, 0xFC (R251). -/
def execUnassignedFC (s : State) : Result := runInstr 4#8 .imp opNop s
/-- Unassigned opcode, 0x02 (R251). -/
def execUnassigned02 (s : State) : Result := runInstr 2#8 .imp opXxx s
/-- Unassigned opcode, 0x03 (R251). -/
def execUnassigned03 (s : State) : Result := runInstr 8#8 .imp opXxx s
/-- Unassigned opcode, 0x07 (R251). -/
def execUnassigned07 (s : State) : Result := runInstr 5#8 .imp opXxx s
/-- Unassigned opcode, 0x0B (R251). -/
def execUnassigned0B (s : State) : Result := runInstr 2#8 .imp opXxx s
/-- Unassigned opcode, 0x0F (R251). -/
def execUnassigned0F (s : State) : Result := runInstr 6#8 .imp opXxx s
/-- Unassigned opcode, 0x12 (R251). -/
def execUnassigned12 (s : State) : Result := runInstr 2#8 .imp opXxx s
/-- Unassigned opcode, 0x13 (R251). -/
def execUnassigned13 (s : State) : Result := runInstr 8#8 .imp opXxx s
/-- Unassigned opcode, 0x17 (R251). -/
def execUnassigned17 (s : State) : Result := runInstr 6#8 .imp opXxx s
/-- Unassigned opcode, 0x1B (R251). -/
def execUnassigned1B (s : State) : Result := runInstr 7#8 .imp opXxx s
/-- Unassigned opcode, 0x1F (R251). -/
def execUnassigned1F (s : State) : Result := runInstr 7#8 .imp opXxx s
/-- Unassigned opcode, 0x22 (R251). -/
def execUnassigned22 (s : State) : Result := runInstr 2#8 .imp opXxx s
/-- Unassigned opcode, 0x23 (R251). -/
def execUnassigned23 (s : State) : Result := runInstr 8#8 .imp opXxx s
/-- Unassigned opcode, 0x27 (R251). -/
def execUnassigned27 (s : State) : Result := runInstr 5#8 .imp opXxx s
/-- Unassigned opcode, 0x2B (R251). -/
def execUnassigned2B (s : State) : Result := runInstr 2#8 .imp opXxx s
/-- Unassigned opcode, 0x2F (R251). -/
def execUnassigned2F (s : State) : Result := runInstr 6#8 .imp opXxx s
/-- Unassigned opcode, 0x32 (R251). -/
def execUnassigned32 (s : State) : Result := runInstr 2#8 .imp opXxx s
/-- Unassigned opcode, 0x33 (R251). -/
def execUnassigned33 (s : State) : Result := runInstr 8#8 .imp opXxx s
/-- Unassigned opcode, 0x37 (R251). -/
def execUnassigned37 (s : State) : Result := runInstr 6#8 .imp opXxx s
/-- Unassigned opcode, 0x3B (R251). -/
def execUnassigned3B (s : State) : Result := runInstr 7#8 .imp opXxx s
/-- Unassigned opcode, 0x3F (R251). -/
def execUnassigned3F (s : State) : Result := runInstr 7#8 .imp opXxx s
/-- Unassigned opcode, 0x42 (R251). -/
def execUnassigned42 (s : State) : Result := runInstr 2#8 .imp opXxx s
/-- Unassigned opcode, 0x43 (R251). -/
def execUnassigned43 (s : State) : Result := runInstr 8#8 .imp opXxx s
/-- Unassigned opcode, 0x47 (R251). -/
def execUnassigned47 (s : State) : Result := runInstr 5#8 .imp opXxx s
/-- Unassigned opcode, 0x4B (R251). -/
def execUnassigned4B (s : State) : Result := runInstr 2#8 .imp opXxx s
/-- Unassigned opcode, 0x4F (R251). -/
def execUnassigned4F (s : State) : Result := runInstr 6#8 .imp opXxx s
/-- Unassigned opcode, 0x52 (R251). -/
def execUnassigned52 (s : State) : Result := runInstr 2#8 .imp opXxx s
/-- Unassigned opcode, 0x53 (R251). -/
def execUnassigned53 (s : State) : Result := runInstr 8#8 .imp opXxx s
/-- Unassigned opcode, 0x57 (R251). -/
def execUnassigned57 (s : State) : Result := runInstr 6#8 .imp opXxx s
/-- Unassigned opcode, 0x5B (R251). -/
def execUnassigned5B (s : State) : Result := runInstr 7#8 .imp opXxx s
/-- Unassigned opcode, 0x5F (R251). -/
def execUnassigned5F (s : State) : Result := runInstr 7#8 .imp opXxx s
/-- Unassigned opcode, 0x62 (R251). -/
def execUnassigned62 (s : State) : Result := runInstr 2#8 .imp opXxx s
/-- Unassigned opcode, 0x63 (R251). -/
def execUnassigned63 (s : State) : Result := runInstr 8#8 .imp opXxx s
/-- Unassigned opcode, 0x67 (R251). -/
def execUnassigned67 (s : State) : Result := runInstr 5#8 .imp opXxx s
/-- Unassigned opcode, 0x6B (R251). -/
def execUnassigned6B (s : State) : Result := runInstr 2#8 .imp opXxx s
/-- Unassigned opcode, 0x6F (R251). -/
def execUnassigned6F (s : State) : Result := runInstr 6#8 .imp opXxx s
/-- Unassigned opcode, 0x72 (R251). -/
def execUnassigned72 (s : State) : Result := runInstr 2#8 .imp opXxx s
/-- Unassigned opcode, 0x73 (R251). -/
def execUnassigned73 (s : State) : Result := runInstr 8#8 .imp opXxx s
/-- Unassigned opcode, 0x77 (R251). -/
def execUnassigned77 (s : State) : Result := runInstr 6#8 .imp opXxx s
/-- Unassigned opcode, 0x7B (R251). -/
def execUnassigned7B (s : State) : Result := runInstr 7#8 .imp opXxx s
/-- Unassigned opcode, 0x7F (R251). -/
def execUnassigned7F (s : State) : Result := runInstr 7#8 .imp opXxx s
/-- Unassigned opcode, 0x83 (R251). -/
def execUnassigned83 (s : State) : Result := runInstr 6#8 .imp opXxx s
/-- Unassigned opcode, 0x87 (R251). -/
def execUnassigned87 (s : State) : Result := runInstr 3#8 .imp opXxx s
/-- Unassigned opcode, 0x8B (R251). -/
def execUnassigned8B (s : State) : Result := runInstr 2#8 .imp opXxx s
/-- Unassigned opcode, 0x8F (R251). -/
def execUnassigned8F (s : State) : Result := runInstr 4#8 .imp opXxx s
/-- Unassigned opcode, 0x92 (R251). -/
def execUnassigned92 (s : State) : Result := runInstr 2#8 .imp opXxx s
/-- Unassigned opcode, 0x93 (R251). -/
def execUnassigned93 (s : State) : Result := runInstr 6#8 .imp opXxx s
/-- Unassigned opcode, 0x97 (R251). -/
def execUnassigned97 (s : State) : Result := runInstr 4#8 .imp opXxx s
/-- Unassigned opcode, 0x9B (R251). -/
def execUnassigned9B (s : State) : Result := runInstr 5#8 .imp opXxx s
/-- Unassigned opcode, 0x9E (R251). -/
def execUnassigned9E (s : State) : Result := runInstr 5#8 .imp opXxx s
/-- Unassigned opcode, 0x9F (R251). -/
def execUnassigned9F (s : State) : Result := runInstr 5#8 .imp opXxx s
/-- Unassigned opcode, 0xA3 (R251). -/
def execUnassignedA3 (s : State) : Result := runInstr 6#8 .imp opXxx s
/-- Unassigned opcode, 0xA7 (R251). -/
def execUnassignedA7 (s : State) : Result := runInstr 3#8 .imp opXxx s
/-- Unassigned opcode, 0xAB (R251). -/
def execUnassignedAB (s : State) : Result := runInstr 2#8 .imp opXxx s
/-- Unassigned opcode, 0xAF (R251). -/
def execUnassignedAF (s : State) : Result := runInstr 4#8 .imp opXxx s
/-- Unassigned opcode, 0xB2 (R251). -/
def execUnassignedB2 (s : State) : Result := runInstr 2#8 .imp opXxx s
/-- Unassigned opcode, 0xB3 (R251). -/
def execUnassignedB3 (s : State) : Result := runInstr 5#8 .imp opXxx s
/-- Unassigned opcode, 0xB7 (R251). -/
def execUnassignedB7 (s : State) : Result := runInstr 4#8 .imp opXxx s
/-- Unassigned opcode, 0xBB (R251). -/
def execUnassignedBB (s : State) : Result := runInstr 4#8 .imp opXxx s
/-- Unassigned opcode, 0xBF (R251). -/
def execUnassignedBF (s : State) : Result := runInstr 4#8 .imp opXxx s
/-- Unassigned opcode, 0xC3 (R251). -/
def execUnassignedC3 (s : State) : Result := runInstr 8#8 .imp opXxx s
/-- Unassigned opcode, 0xC7 (R251). -/
def execUnassignedC7 (s : State) : Result := runInstr 5#8 .imp opXxx s
/-- Unassigned opcode, 0xCB (R251). -/
def execUnassignedCB (s : State) : Result := runInstr 2#8 .imp opXxx s
/-- Unassigned opcode, 0xCF (R251). -/
def execUnassignedCF (s : State) : Result := runInstr 6#8 .imp opXxx s
/-- Unassigned opcode, 0xD2 (R251). -/
def execUnassignedD2 (s : State) : Result := runInstr 2#8 .imp opXxx s
/-- Unassigned opcode, 0xD3 (R251). -/
def execUnassignedD3 (s : State) : Result := runInstr 8#8 .imp opXxx s
/-- Unassigned opcode, 0xD7 (R251). -/
def execUnassignedD7 (s : State) : Result := runInstr 6#8 .imp opXxx s
/-- Unassigned opcode, 0xDB (R251). -/
def execUnassignedDB (s : State) : Result := runInstr 7#8 .imp opXxx s
/-- Unassigned opcode, 0xDF (R251). -/
def execUnassignedDF (s : State) : Result := runInstr 7#8 .imp opXxx s
/-- Unassigned opcode, 0xE3 (R251). -/
def execUnassignedE3 (s : State) : Result := runInstr 8#8 .imp opXxx s
/-- Unassigned opcode, 0xE7 (R251). -/
def execUnassignedE7 (s : State) : Result := runInstr 5#8 .imp opXxx s
/-- Unassigned opcode, 0xEB (R251). -/
def execUnassignedEB (s : State) : Result := runInstr 2#8 .imp opXxx s
/-- Unassigned opcode, 0xEF (R251). -/
def execUnassignedEF (s : State) : Result := runInstr 6#8 .imp opXxx s
/-- Unassigned opcode, 0xF2 (R251). -/
def execUnassignedF2 (s : State) : Result := runInstr 2#8 .imp opXxx s
/-- Unassigned opcode, 0xF3 (R251). -/
def execUnassignedF3 (s : State) : Result := runInstr 8#8 .imp opXxx s
/-- Unassigned opcode, 0xF7 (R251). -/
def execUnassignedF7 (s : State) : Result := runInstr 6#8 .imp opXxx s
/-- Unassigned opcode, 0xFB (R251). -/
def execUnassignedFB (s : State) : Result := runInstr 7#8 .imp opXxx s
/-- Unassigned opcode, 0xFF (R251). -/
def execUnassignedFF (s : State) : Result := runInstr 7#8 .imp opXxx s

end Sys2Proof.Machine
end

