-- ==== Sys2Proof/Machine/Shift.lean ====
section
/-! DEFINITION. Shifts and rotates (44_shift_rotate.md), on A or on memory. -/

namespace Sys2Proof.Machine

/-- What the four share: `temp`, the flags from the bit shifted out and the 8-bit result, and the write-back (R174). -/
def shiftTo (o : Operand) (out : Bool) (t : Word) (s : State) : State :=
  writeBack o (t.setWidth 8) ((s.setTemp t).setP (withShift out (t.setWidth 8) s.p))

/-- ASL (R170). -/
def opAsl : HandlerFn := fun o s =>
  let m := fetchOperand o s
  let t := m.1.setWidth 16 <<< 1
  (false, shiftTo o (t.getLsbD 8) t m.2)

/-- LSR (R171). -/
def opLsr : HandlerFn := fun o s =>
  let m := fetchOperand o s
  (false, shiftTo o (m.1.getLsbD 0) ((m.1 >>> 1).setWidth 16) m.2)

/-- ROL (R172). -/
def opRol : HandlerFn := fun o s =>
  let m := fetchOperand o s
  let t := m.1.setWidth 16 <<< 1 ||| (BitVec.ofBool m.2.p.c).setWidth 16
  (false, shiftTo o (t.getLsbD 8) t m.2)

/-- ROR (R173). -/
def opRor : HandlerFn := fun o s =>
  let m := fetchOperand o s
  let t := (BitVec.ofBool m.2.p.c).setWidth 16 <<< 7 ||| (m.1 >>> 1).setWidth 16
  (false, shiftTo o (m.1.getLsbD 0) t m.2)

/-- ASL ZP, 0x06 (R170). -/
def execAslZp (b : Byte) (s : State) : Result := runInstr 5#8 (.zp b) opAsl s
/-- ASL ACC, 0x0A (R170). -/
def execAslAcc (s : State) : Result := runInstr 2#8 .imp opAsl s
/-- ASL ABS, 0x0E (R170). -/
def execAslAbs (w : Word) (s : State) : Result := runInstr 6#8 (.abs w) opAsl s
/-- ASL ZPX, 0x16 (R170). -/
def execAslZpx (b : Byte) (s : State) : Result := runInstr 6#8 (.zpx b) opAsl s
/-- ASL ABX, 0x1E (R170). -/
def execAslAbx (w : Word) (s : State) : Result := runInstr 7#8 (.abx w) opAsl s
/-- LSR ZP, 0x46 (R171). -/
def execLsrZp (b : Byte) (s : State) : Result := runInstr 5#8 (.zp b) opLsr s
/-- LSR ACC, 0x4A (R171). -/
def execLsrAcc (s : State) : Result := runInstr 2#8 .imp opLsr s
/-- LSR ABS, 0x4E (R171). -/
def execLsrAbs (w : Word) (s : State) : Result := runInstr 6#8 (.abs w) opLsr s
/-- LSR ZPX, 0x56 (R171). -/
def execLsrZpx (b : Byte) (s : State) : Result := runInstr 6#8 (.zpx b) opLsr s
/-- LSR ABX, 0x5E (R171). -/
def execLsrAbx (w : Word) (s : State) : Result := runInstr 7#8 (.abx w) opLsr s
/-- ROL ZP, 0x26 (R172). -/
def execRolZp (b : Byte) (s : State) : Result := runInstr 5#8 (.zp b) opRol s
/-- ROL ACC, 0x2A (R172). -/
def execRolAcc (s : State) : Result := runInstr 2#8 .imp opRol s
/-- ROL ABS, 0x2E (R172). -/
def execRolAbs (w : Word) (s : State) : Result := runInstr 6#8 (.abs w) opRol s
/-- ROL ZPX, 0x36 (R172). -/
def execRolZpx (b : Byte) (s : State) : Result := runInstr 6#8 (.zpx b) opRol s
/-- ROL ABX, 0x3E (R172). -/
def execRolAbx (w : Word) (s : State) : Result := runInstr 7#8 (.abx w) opRol s
/-- ROR ZP, 0x66 (R173). -/
def execRorZp (b : Byte) (s : State) : Result := runInstr 5#8 (.zp b) opRor s
/-- ROR ACC, 0x6A (R173). -/
def execRorAcc (s : State) : Result := runInstr 2#8 .imp opRor s
/-- ROR ABS, 0x6E (R173). -/
def execRorAbs (w : Word) (s : State) : Result := runInstr 6#8 (.abs w) opRor s
/-- ROR ZPX, 0x76 (R173). -/
def execRorZpx (b : Byte) (s : State) : Result := runInstr 6#8 (.zpx b) opRor s
/-- ROR ABX, 0x7E (R173). -/
def execRorAbx (w : Word) (s : State) : Result := runInstr 7#8 (.abx w) opRor s

end Sys2Proof.Machine
end

