-- ==== Sys2Proof/Machine/Stack.lean ====
section
/-! DEFINITION. Stack instructions (43_stack.md). -/

namespace Sys2Proof.Machine

/-- PHA (R160). -/
def opPha : HandlerFn := fun _ s => (false, push s.a s)

/-- PHP (R161): B and U are 1 in the pushed byte; the stored P is unchanged. -/
def opPhp : HandlerFn := fun _ s => (false, push (pushedStatus true s.p) s)

/-- PLA (R162). -/
def opPla : HandlerFn := fun _ s =>
  let m := pull s
  (false, (m.2.setA m.1).setP (withZN m.1 m.2.p))

/-- PLP (R163). -/
def opPlp : HandlerFn := fun _ s =>
  let m := pull s
  (false, m.2.setP (statusOf m.1))

/-- PHA IMP, 0x48 (R160). -/
def execPha (s : State) : Result := runInstr 3#8 .imp opPha s
/-- PHP IMP, 0x08 (R161). -/
def execPhp (s : State) : Result := runInstr 3#8 .imp opPhp s
/-- PLA IMP, 0x68 (R162). -/
def execPla (s : State) : Result := runInstr 4#8 .imp opPla s
/-- PLP IMP, 0x28 (R163). -/
def execPlp (s : State) : Result := runInstr 4#8 .imp opPlp s

end Sys2Proof.Machine
end

