-- ==== Sys2Proof/Machine/Engine.lean ====
section
/-! DEFINITION. The execution engine (49_execution_engine.md): the instruction fetch, the tick, and the host's
operations. -/

namespace Sys2Proof.Machine

/-- The instruction fetch of `Step()` (R262): the opcode byte to `opcode`, PC past it, and the operand bytes the
instruction reads, in address order (R63, R80). PC is moved past those by the resolver (R24). -/
def fetch (s : State) : Instr × State :=
  let op := busRead s.pc s
  let s1 := (op.2.setOpcode op.1).setPc (s.pc + 1#16)
  let n := (table op.1).bytesRead
  let b1 := if 1 ≤ n then busRead s1.pc s1 else (0#8, s1)
  let b2 := if 2 ≤ n then busRead (s1.pc + 1#16) b1.2 else (0#8, b1.2)
  (decodeParts op.1 b1.1 b2.1, b2.2)

/-- `Step()` (R262): fetch, then the meaning of the instruction, which charges `cycles`. -/
def stepInstruction (s : State) : Result :=
  let f := fetch s
  exec f.1 f.2

/-- What a tick does at an instruction boundary (R261, R303): NMI, else an unmasked IRQ, else one instruction. -/
def boundaryAction (irq : Bool) (s : State) : Result :=
  if s.nmiPending then .next (interrupt Config.nmiVector (s.setNmiPending false))
  else if irq && !s.p.i then .next (interrupt Config.irqVector s)
  else stepInstruction s

/-- The end of every tick (R264): `cycles <- cycles - 1`. -/
def endTick (r : Result) : Result :=
  match r with
  | .next s => .next (s.setCycles (s.cycles - 1#8))
  | .fault f => .fault f
  | .refused f => .refused f

/-- `complete()` (R265): the core is at an instruction boundary. -/
def complete (s : State) : Bool := s.cycles == 0#8

/-- `tick(irq)` (R261). -/
def tick (irq : Bool) (s : State) : Result :=
  endTick (if complete s then boundaryAction irq s else .next s)

/-- The host's next call (R268): the head of `hostCalls`, or `tick(0)` when the host has none listed
(notes/assumptions/5.md). -/
def hostStep (s : State) : Result :=
  match s.hostCalls with
  | [] => tick false s
  | .tick irq :: rest => tick irq (s.setHostCalls rest)
  | .reset :: rest => .next (hostReset (s.setHostCalls rest))
  | .nmi :: rest => .next (hostNmi (s.setHostCalls rest))

/-- What the host's state read returns (R268, R34): every element, P as `Pbyte` unmodified. -/
structure HostView where
  a : Byte
  x : Byte
  y : Byte
  sp : Byte
  pc : Word
  p : Byte
  opcode : Byte
  fetched : Byte
  addrAbs : Word
  addrRel : Word
  temp : Word
  cycles : Byte
  nmiPending : Bool
deriving DecidableEq, Repr

/-- The state read (R268). It changes nothing. -/
def stateRead (s : State) : HostView where
  a := s.a
  x := s.x
  y := s.y
  sp := s.sp
  pc := s.pc
  p := pbyte s.p
  opcode := s.opcode
  fetched := s.fetched
  addrAbs := s.addrAbs
  addrRel := s.addrRel
  temp := s.temp
  cycles := s.cycles
  nmiPending := s.nmiPending

end Sys2Proof.Machine
end

