-- ==== Sys2Proof/Machine/Step.lean ====
section
/-! DEFINITION. The step of the machine: the host's next call, which is one clock cycle when it is a tick
(notes/assumptions/6.md). -/

namespace Sys2Proof.Machine

/-- One step: the host's next call (R261, R268). -/
def step (s : State) : Host.Outcome State Fault Refusal := hostStep s

/-- The state whose next step fetches and runs the instruction with the bits `w` (notes/assumptions/18.md). -/
def State.withFetchWord (s : State) (nbits w : Nat) : State := placeInstruction nbits w s

end Sys2Proof.Machine
end

