-- ==== Sys2Proof/Safety.lean ====
section
/-! DEFINITION. What claims are stated in: the invariant of every state, the end of a run (R351), and the state a
handler starts from. -/

namespace Sys2Proof.Machine

/-- The invariant every step keeps: the memory is in its canonical form, and `cycles` is at most
max(7, RESET_CYCLES, INT_CYCLES - 1) (R41). -/
def Inv (s : State) : Prop := s.mem.wf = true ∧ s.cycles ≤ 7#8

/-- A run to STOP has ended (R351): an instruction boundary whose PC is the stop address. -/
def ended (stop : Word) (s : State) : Bool := complete s && s.pc == stop

/-- The run to STOP (R351), for at most `fuel` steps: how many steps it takes and the state it ends in. -/
def runToStop (stop : Word) : Nat → State → Option (Nat × State)
  | 0, s => if ended stop s then some (0, s) else none
  | fuel + 1, s =>
    if ended stop s then some (0, s)
    else match step s with
      | .next t => (runToStop stop fuel t).map fun r => (r.1 + 1, r.2)
      | .fault _ => none
      | .refused _ => none

/-- The host's next call is `tick(irq)`, with `rest` after it: the head of `hostCalls`, or `tick(0)` when none is
listed. -/
def ticksNext (irq : Bool) (rest : List HostCall) (s : State) : Prop :=
  s.hostCalls = .tick irq :: rest ∨ (s.hostCalls = [] ∧ irq = false ∧ rest = [])

/-- The state the handler of an instruction starts from (R262): the base cost charged, the operand resolved. -/
def atHandler (i : Instr) (s : State) : State := (resolve i.operand (s.setCycles i.entry.base)).2

/-- Whether the resolver of an instruction requests an extra cycle (R110). -/
def pageCrossed (i : Instr) (s : State) : Bool := (resolve i.operand (s.setCycles i.entry.base)).1

/-- The operand read of an instruction's handler (R111): the byte, and the state after it. -/
def operandRead (i : Instr) (s : State) : Byte × State := fetchOperand i.operand (atHandler i s)

/-- Every address is plain RAM: the premise of R51 for the whole space. -/
def allRam (s : State) : Prop := ∀ a, s.target a = .ram

/-- Nothing is promised of any address: the bus sees every access (R51, R56). -/
def allDevice (s : State) : Prop := ∀ a, s.target a = .device

/-- The byte a plain-RAM address holds (R51). -/
def ramByte (s : State) (a : Word) : Byte := memRead s.mem a.toNat

/-- The byte of the last write to an address after a list of accesses, newest first, "or its initial content when it has
not been written" (R51). -/
def lastWrite (init : Word → Byte) : List BusAccess → Word → Byte
  | [], a => init a
  | .read _ :: h, a => lastWrite init h a
  | .write b v :: h, a => if b = a then v else lastWrite init h a

/-- The named premise of R51 on a bus: in every state accesses can bring it to, the addresses the map calls plain RAM
answer the last write to them and a read of them has no effect, and a write to those it calls unmapped is dropped (R52). -/
def honours {BusState : Type} (B : Bus BusState) (map : List Window) (init : Word → Byte) : Prop :=
  ∀ (h : List BusAccess) (a : Word),
    (targetIn map a = .ram → B.read (B.after h) a = (B.after h, lastWrite init h a)) ∧
    (targetIn map a = .unmapped → ∀ v, B.write (B.after h) a v = B.after h)

/-- The memory is canonical and holds, at every plain-RAM address, the last byte written there (R51). -/
def holdsLastWrites (init : Word → Byte) (s : State) : Prop :=
  s.mem.wf = true ∧ ∀ a, s.target a = .ram → ramByte s a = lastWrite init s.busLog a

end Sys2Proof.Machine
end

