-- ==== Sys2Proof/Certificates/Slice0/Obligations.lean ====
section
/-! DEFINITION. The statements for the provers, from the numbered rules of spec/, with the vocabulary they share. A
statement says where an instruction answers a next state by having `exec i s = .next t` as its conclusion. -/

namespace Sys2Proof.Claims

open Sys2Proof Sys2Proof.Machine

/-! ## Vocabulary -/

/-- The opcodes and modes each instruction rule lists under "Encoding" (files 42 to 48; ACC is IMP, R92). -/
def rowsOf : Handler → List (Byte × Mode)
  | .lda => [(0xA9#8, .imm), (0xA5#8, .zp), (0xB5#8, .zpx), (0xAD#8, .abs), (0xBD#8, .abx), (0xB9#8, .aby), (0xA1#8, .izx), (0xB1#8, .izy)]
  | .ldx => [(0xA2#8, .imm), (0xA6#8, .zp), (0xB6#8, .zpy), (0xAE#8, .abs), (0xBE#8, .aby)]
  | .ldy => [(0xA0#8, .imm), (0xA4#8, .zp), (0xB4#8, .zpx), (0xAC#8, .abs), (0xBC#8, .abx)]
  | .sta => [(0x85#8, .zp), (0x95#8, .zpx), (0x8D#8, .abs), (0x9D#8, .abx), (0x99#8, .aby), (0x81#8, .izx), (0x91#8, .izy)]
  | .stx => [(0x86#8, .zp), (0x96#8, .zpy), (0x8E#8, .abs)]
  | .sty => [(0x84#8, .zp), (0x94#8, .zpx), (0x8C#8, .abs)]
  | .tax => [(0xAA#8, .imp)]
  | .tay => [(0xA8#8, .imp)]
  | .txa => [(0x8A#8, .imp)]
  | .tya => [(0x98#8, .imp)]
  | .tsx => [(0xBA#8, .imp)]
  | .txs => [(0x9A#8, .imp)]
  | .pha => [(0x48#8, .imp)]
  | .php => [(0x08#8, .imp)]
  | .pla => [(0x68#8, .imp)]
  | .plp => [(0x28#8, .imp)]
  | .asl => [(0x0A#8, .imp), (0x06#8, .zp), (0x16#8, .zpx), (0x0E#8, .abs), (0x1E#8, .abx)]
  | .lsr => [(0x4A#8, .imp), (0x46#8, .zp), (0x56#8, .zpx), (0x4E#8, .abs), (0x5E#8, .abx)]
  | .rol => [(0x2A#8, .imp), (0x26#8, .zp), (0x36#8, .zpx), (0x2E#8, .abs), (0x3E#8, .abx)]
  | .ror => [(0x6A#8, .imp), (0x66#8, .zp), (0x76#8, .zpx), (0x6E#8, .abs), (0x7E#8, .abx)]
  | .jmp => [(0x4C#8, .abs), (0x6C#8, .ind)]
  | .jsr => [(0x20#8, .abs)]
  | .rts => [(0x60#8, .imp)]
  | .rti => [(0x40#8, .imp)]
  | .brk => [(0x00#8, .imm)]
  | .bcc => [(0x90#8, .rel)]
  | .bcs => [(0xB0#8, .rel)]
  | .beq => [(0xF0#8, .rel)]
  | .bmi => [(0x30#8, .rel)]
  | .bne => [(0xD0#8, .rel)]
  | .bpl => [(0x10#8, .rel)]
  | .bvc => [(0x50#8, .rel)]
  | .bvs => [(0x70#8, .rel)]
  | .clc => [(0x18#8, .imp)]
  | .cld => [(0xD8#8, .imp)]
  | .cli => [(0x58#8, .imp)]
  | .clv => [(0xB8#8, .imp)]
  | .sec => [(0x38#8, .imp)]
  | .sed => [(0xF8#8, .imp)]
  | .sei => [(0x78#8, .imp)]
  | .adc => [(0x69#8, .imm), (0x65#8, .zp), (0x75#8, .zpx), (0x6D#8, .abs), (0x7D#8, .abx), (0x79#8, .aby), (0x61#8, .izx), (0x71#8, .izy)]
  | .sbc => [(0xE9#8, .imm), (0xE5#8, .zp), (0xF5#8, .zpx), (0xED#8, .abs), (0xFD#8, .abx), (0xF9#8, .aby), (0xE1#8, .izx), (0xF1#8, .izy)]
  | .and => [(0x29#8, .imm), (0x25#8, .zp), (0x35#8, .zpx), (0x2D#8, .abs), (0x3D#8, .abx), (0x39#8, .aby), (0x21#8, .izx), (0x31#8, .izy)]
  | .ora => [(0x09#8, .imm), (0x05#8, .zp), (0x15#8, .zpx), (0x0D#8, .abs), (0x1D#8, .abx), (0x19#8, .aby), (0x01#8, .izx), (0x11#8, .izy)]
  | .eor => [(0x49#8, .imm), (0x45#8, .zp), (0x55#8, .zpx), (0x4D#8, .abs), (0x5D#8, .abx), (0x59#8, .aby), (0x41#8, .izx), (0x51#8, .izy)]
  | .bit => [(0x24#8, .zp), (0x2C#8, .abs)]
  | .cmp => [(0xC9#8, .imm), (0xC5#8, .zp), (0xD5#8, .zpx), (0xCD#8, .abs), (0xDD#8, .abx), (0xD9#8, .aby), (0xC1#8, .izx), (0xD1#8, .izy)]
  | .cpx => [(0xE0#8, .imm), (0xE4#8, .zp), (0xEC#8, .abs)]
  | .cpy => [(0xC0#8, .imm), (0xC4#8, .zp), (0xCC#8, .abs)]
  | .inc => [(0xE6#8, .zp), (0xF6#8, .zpx), (0xEE#8, .abs), (0xFE#8, .abx)]
  | .dec => [(0xC6#8, .zp), (0xD6#8, .zpx), (0xCE#8, .abs), (0xDE#8, .abx)]
  | .inx => [(0xE8#8, .imp)]
  | .iny => [(0xC8#8, .imp)]
  | .dex => [(0xCA#8, .imp)]
  | .dey => [(0x88#8, .imp)]
  | .nop => [(0xEA#8, .imp)]
  | .xxx => []

/-- The instruction has an opcode that the rule of `h` lists. -/
def encodes (h : Handler) (i : Instr) : Prop := i.opcode ∈ (rowsOf h).map Prod.fst

/-- Its opcode and its mode are a pair that the rule of `h` lists. -/
def listed (h : Handler) (i : Instr) : Prop := (i.opcode, i.operand.mode) ∈ rowsOf h

/-- The 105 unassigned opcodes (R87). -/
def unassignedOpcodes : List Byte :=
  [0x02#8, 0x03#8, 0x04#8, 0x07#8, 0x0B#8, 0x0C#8, 0x0F#8, 0x12#8, 0x13#8, 0x14#8, 0x17#8, 0x1A#8, 0x1B#8, 0x1C#8, 
   0x1F#8, 0x22#8, 0x23#8, 0x27#8, 0x2B#8, 0x2F#8, 0x32#8, 0x33#8, 0x34#8, 0x37#8, 0x3A#8, 0x3B#8, 0x3C#8, 0x3F#8, 
   0x42#8, 0x43#8, 0x44#8, 0x47#8, 0x4B#8, 0x4F#8, 0x52#8, 0x53#8, 0x54#8, 0x57#8, 0x5A#8, 0x5B#8, 0x5C#8, 0x5F#8, 
   0x62#8, 0x63#8, 0x64#8, 0x67#8, 0x6B#8, 0x6F#8, 0x72#8, 0x73#8, 0x74#8, 0x77#8, 0x7A#8, 0x7B#8, 0x7C#8, 0x7F#8, 
   0x80#8, 0x82#8, 0x83#8, 0x87#8, 0x89#8, 0x8B#8, 0x8F#8, 0x92#8, 0x93#8, 0x97#8, 0x9B#8, 0x9C#8, 0x9E#8, 0x9F#8, 
   0xA3#8, 0xA7#8, 0xAB#8, 0xAF#8, 0xB2#8, 0xB3#8, 0xB7#8, 0xBB#8, 0xBF#8, 0xC2#8, 0xC3#8, 0xC7#8, 0xCB#8, 0xCF#8, 
   0xD2#8, 0xD3#8, 0xD4#8, 0xD7#8, 0xDA#8, 0xDB#8, 0xDC#8, 0xDF#8, 0xE2#8, 0xE3#8, 0xE7#8, 0xEB#8, 0xEF#8, 0xF2#8, 
   0xF3#8, 0xF4#8, 0xF7#8, 0xFA#8, 0xFB#8, 0xFC#8, 0xFF#8]

/-- PC past the operand bytes of an instruction (R24). -/
def pcPast (i : Instr) (s : State) : Word := s.pc + BitVec.ofNat 16 i.operand.mode.operandBytes

/-- The effective address, as the handler finds it in `addr_abs` (R38, R125). -/
def ea (i : Instr) (s : State) : Word := (atHandler i s).addrAbs

/-- The operand byte the handler reads (R111). -/
def operandByte (i : Instr) (s : State) : Byte := (operandRead i s).1

/-- A carry as a number. -/
def bit (b : Bool) : Nat := if b then 1 else 0

/-- SetZN (R220) of a byte. -/
def zn (v : Byte) (p : Status) : Status := { p with z := decide (v.toNat = 0), n := decide (128 ≤ v.toNat) }

/-- The cost of a handler that returns h = 1 (R263): the base, and one more when the resolver requests it. -/
def pageCost (i : Instr) (s : State) : Byte := i.entry.base + if pageCrossed i s then 1#8 else 0#8

/-- The page-1 address of a stack offset (R23, R58). -/
def stackByte (offset : Byte) : Word := BitVec.ofNat 16 (0x100 + offset.toNat)

/-- A word from two plain-RAM bytes, by the addresses of its low and its high byte (R53). -/
def ramWord (s : State) (lo hi : Word) : Word := BitVec.ofNat 16 ((ramByte s hi).toNat * 256 + (ramByte s lo).toNat)

/-- The high and low bytes of a word, as numbers. -/
def hiByte (w : Word) : Byte := BitVec.ofNat 8 (w.toNat / 256)
def loByte (w : Word) : Byte := BitVec.ofNat 8 (w.toNat % 256)

/-- No byte of memory differs. -/
def sameMemory (s t : State) : Prop := ∀ a, ramByte t a = ramByte s a

/-- No byte of memory differs outside the listed addresses. -/
def sameMemoryBut (l : List Word) (s t : State) : Prop := ∀ a, a ∉ l → ramByte t a = ramByte s a

/-- A, X, Y and SP are unchanged. -/
def sameRegs (s t : State) : Prop := t.a = s.a ∧ t.x = s.x ∧ t.y = s.y ∧ t.sp = s.sp

/-- What no instruction changes: `opcode` (R36), the NMI latch (R42), the address map, the host's calls. -/
def sameOuter (s t : State) : Prop :=
  t.opcode = s.opcode ∧ t.nmiPending = s.nmiPending ∧ t.busMap = s.busMap ∧ t.hostCalls = s.hostCalls

/-- The frame of a handler that reads its operand (R111): PC past the operand, `addr_abs` from the resolver, `fetched`
the byte read. -/
def operandFrame (i : Instr) (s t : State) : Prop :=
  t.pc = pcPast i s ∧ t.addrAbs = ea i s ∧ t.addrRel = s.addrRel ∧ t.fetched = operandByte i s ∧ sameOuter s t

/-- The bus after a handler whose only access is its operand read (R56, R111). -/
def busAfterRead (i : Instr) (s t : State) : Prop := t.busLog = (operandRead i s).2.busLog

/-- The bus after a write of `v` at `a` in the state `u`, and nothing after it (R50, R56). -/
def busAfterWrite (a : Word) (v : Byte) (u t : State) : Prop :=
  t.mem = (busWrite a v u).mem ∧ t.busLog = (busWrite a v u).busLog

/-- The frame of an implied instruction: the IMP resolver copies A to `fetched` (R112). -/
def impliedFrame (s t : State) : Prop :=
  t.addrAbs = s.addrAbs ∧ t.addrRel = s.addrRel ∧ t.fetched = s.a ∧ t.temp = s.temp ∧ sameOuter s t

/-- Whether the branch of a handler is taken (R186 to R193); none for a handler that is no branch. -/
def branchTaken (h : Handler) (p : Status) : Option Bool :=
  match h with
  | .bcc => some (!p.c)
  | .bcs => some p.c
  | .beq => some p.z
  | .bmi => some p.n
  | .bne => some (!p.z)
  | .bpl => some (!p.n)
  | .bvc => some (!p.v)
  | .bvs => some p.v
  | _ => none

/-- The handlers for which h is 1 (R263); the NOP handler's request is never charged (R252). -/
def requesting : List Handler := [.adc, .and, .cmp, .eor, .lda, .ldx, .ldy, .ora, .sbc]

/-- The 18 handlers that read their operand with FetchOperand (R37, R111). -/
def operandReaders : List Handler :=
  [.adc, .and, .asl, .bit, .cmp, .cpx, .cpy, .dec, .eor, .inc, .lda, .ldx, .ldy, .lsr, .ora, .rol, .ror, .sbc]

/-- After a boundary action that left `t`, run from `s`: after each k ticks short of its charge the state is `t` but for the
charge left and the host's calls, and not complete; after as many as the charge it is complete (R264, R265). -/
def takesItsTicks (s t : State) (callsAfter : Nat → List HostCall) : Prop :=
  let n := t.cycles.toNat
  Sys2Proof.core.run n s = .next { t with cycles := 0#8, hostCalls := callsAfter n } ∧
    ∀ k, 0 < k → k < n → ∃ u, Sys2Proof.core.run k s = .next u ∧
      u = { t with cycles := BitVec.ofNat 8 (n - k), hostCalls := callsAfter k } ∧ complete u = false

/-- The branch penalty (R185, R263). -/
def branchPenalty (i : Instr) (s : State) : Byte :=
  match branchTaken i.handler s.p with
  | some true =>
    let next := (atHandler i s).pc
    let target := next + (atHandler i s).addrRel
    if target.toNat / 256 = next.toNat / 256 then 1#8 else 2#8
  | _ => 0#8

/-- The 23 opcodes of R270 and the eight branches. -/
def pageCrossOpcodes : List Byte :=
  [0x1D#8, 0x19#8, 0x11#8, 0x3D#8, 0x39#8, 0x31#8, 0x5D#8, 0x59#8, 0x51#8, 0x7D#8, 0x79#8, 0x71#8, 0xBD#8, 0xB9#8,
    0xB1#8, 0xBE#8, 0xBC#8, 0xDD#8, 0xD9#8, 0xD1#8, 0xFD#8, 0xF9#8, 0xF1#8]
def branchOpcodes : List Byte := [0x10#8, 0x30#8, 0x50#8, 0x70#8, 0x90#8, 0xB0#8, 0xD0#8, 0xF0#8]

end Sys2Proof.Claims

open Sys2Proof Sys2Proof.Machine Sys2Proof.Claims

/-! ## Encoding (30_encoding.md) -/

/-- R84: for every byte value there is exactly one entry, and decoding never fails. Every opcode byte with two bytes
after it decodes, to an instruction whose opcode is that byte. -/
def Obligations.EveryOpcodeHasOneEntryAndDecodes : Prop :=
  dispatchTable.length = 256 ∧
    ∀ (op b1 b2 : Byte) (rest : List Byte),
      dispatchTable[op.toNat]? = some (table op) ∧
        ∃ i r, decode (op :: b1 :: b2 :: rest) = .ok (i, r) ∧ i.opcode = op ∧ i.entry = table op

/-- The decoder gives back every instruction the encoder writes, whatever bytes follow. -/
def Obligations.DecodeOfEncodeIsTheInstruction : Prop :=
  ∀ (i : Instr) (rest : List Byte), decode (encode i ++ rest) = .ok (i, rest)

/-- Bytes that decode are the encoding of what they decode to, but for BRK's padding byte, which has no use (R80). -/
def Obligations.EncodeOfDecodeIsTheBytes : Prop :=
  ∀ (bytes rest : List Byte) (i : Instr), decode bytes = .ok (i, rest) →
    if i = .brk then ∃ pad, bytes = 0x00#8 :: pad :: rest else bytes = encode i ++ rest

/-- R81: the opcode byte alone determines the length, through the mode of its table entry. -/
def Obligations.OpcodeByteAloneGivesTheLength : Prop :=
  ∀ (op : Byte) (tail : List Byte),
    (∀ i rest, decode (op :: tail) = .ok (i, rest) →
      i.opcode = op ∧ (op :: tail).length = (table op).length + rest.length) ∧
    ((op :: tail).length < (table op).length → decode (op :: tail) = .error (.truncated op)) ∧
    ((table op).length ≤ (op :: tail).length → ∃ i rest, decode (op :: tail) = .ok (i, rest))

/-- Words written out from the encodings of R82 and R86, one per family. -/
def Obligations.WrittenOutWordsDecode : Prop :=
  decode [0xA9#8, 0x41#8] = .ok (.ldaImm 0x41#8, []) ∧ decode [0x9D#8, 0xFF#8, 0x20#8] = .ok (.staAbx 0x20FF#16, []) ∧
    decode [0x48#8] = .ok (.pha, []) ∧ decode [0x36#8, 0x0F#8] = .ok (.rolZpx 0x0F#8, []) ∧
    decode [0x6C#8, 0xFF#8, 0x02#8] = .ok (.jmpInd 0x02FF#16, []) ∧ decode [0xD0#8, 0xFB#8] = .ok (.bne 0xFB#8, []) ∧
    decode [0x00#8, 0xEA#8] = .ok (.brk, []) ∧ decode [0xF8#8] = .ok (.sed, []) ∧
    decode [0xF1#8, 0x10#8] = .ok (.sbcIzy 0x10#8, []) ∧ decode [0xEB#8, 0x01#8] = .ok (.unassignedEB, [0x01#8])

/-- The base costs of the table, by class and mode (R349), and of the unassigned opcodes (R253). -/
def Obligations.BaseCostsAreThoseOfTheTimingTables : Prop :=
  (∀ i : Instr, i.opcode ∉ unassignedOpcodes →
    i.entry.base =
      (if i.handler ∈ [.sta, .stx, .sty] then
        match i.operand.mode with
        | .zp => 3#8 | .zpx | .zpy | .abs => 4#8 | .abx | .aby => 5#8 | _ => 6#8
      else if i.handler ∈ [.asl, .lsr, .rol, .ror, .inc, .dec] then
        match i.operand.mode with
        | .imp => 2#8 | .zp => 5#8 | .abx => 7#8 | _ => 6#8
      else if i.handler ∈ [.pha, .php] then 3#8
      else if i.handler ∈ [.pla, .plp] then 4#8
      else if i.handler ∈ [.rts, .rti, .jsr] then 6#8
      else if i.handler = .brk then 7#8
      else if i.handler = .jmp then (if i.operand.mode = .abs then 3#8 else 5#8)
      else match i.operand.mode with
        | .imp | .imm | .rel => 2#8 | .zp => 3#8 | .izx => 6#8 | .izy => 5#8 | _ => 4#8)) ∧
  (∀ op ∈ unassignedOpcodes,
    (table op).base =
      if op ∈ [0x87#8, 0xA7#8, 0x04#8, 0x44#8, 0x64#8] then 3#8
      else if op ∈ [0x0C#8, 0x14#8, 0x1C#8, 0x34#8, 0x3C#8, 0x54#8, 0x5C#8, 0x74#8, 0x7C#8, 0xD4#8, 0xDC#8, 0xF4#8, 0xFC#8,
        0x8F#8, 0x97#8, 0xAF#8, 0xB7#8, 0xBB#8, 0xBF#8] then 4#8
      else if op ∈ [0x9C#8, 0x07#8, 0x27#8, 0x47#8, 0x67#8, 0x9B#8, 0x9E#8, 0x9F#8, 0xB3#8, 0xC7#8, 0xE7#8] then 5#8
      else if op ∈ [0x0F#8, 0x17#8, 0x2F#8, 0x37#8, 0x4F#8, 0x57#8, 0x6F#8, 0x77#8, 0x83#8, 0x93#8, 0xA3#8, 0xCF#8, 0xD7#8,
        0xEF#8, 0xF7#8] then 6#8
      else if op ∈ [0x1B#8, 0x1F#8, 0x3B#8, 0x3F#8, 0x5B#8, 0x5F#8, 0x7B#8, 0x7F#8, 0xDB#8, 0xDF#8, 0xFB#8, 0xFF#8] then 7#8
      else if op ∈ [0x03#8, 0x13#8, 0x23#8, 0x33#8, 0x43#8, 0x53#8, 0x63#8, 0x73#8, 0xC3#8, 0xD3#8, 0xE3#8, 0xF3#8] then 8#8
      else 2#8)

/-! ## The bus (20_memory.md) -/

/-- R51: a plain-RAM read returns the byte of the last write to that address and has no effect; a write leaves every
other address alone. -/
def Obligations.PlainRamReadsTheLastByteWritten : Prop :=
  ∀ (s : State) (a : Word) (v : Byte), s.mem.wf = true → s.target a = .ram →
    busRead a (busWrite a v s) = (v, busWrite a v s) ∧ busRead a s = (ramByte s a, s) ∧
      (busWrite a v s).mem.wf = true ∧
      ∀ b, b ≠ a → s.target b = .ram → busRead b (busWrite a v s) = ((busRead b s).1, busWrite a v s)

/-- R51, R52: the core on the `Bus` parameter. First: where plain RAM is not promised, the parameter answers from its
state after every access before; a write to an unmapped address is dropped. Second: for every bus of R51's shape, with
plain RAM and unmapped addresses where the map says (the named premise of R51), every read and write, at every address,
answers what that bus answers and leaves the state that bus goes to, and the memory goes on holding the last writes. That
the map and the accesses are plain data of the state is the model's choice (log entries 1 and 4). -/
def Obligations.WhatIsNotPlainRamSeesTheAccess : Prop :=
  (∀ (s : State) (a : Word) (v : Byte),
    (s.target a ≠ .ram →
      busRead a s = (Config.bus.answer s.busLog a, { s with busLog := .read a :: s.busLog })) ∧
    (s.target a = .unmapped → busWrite a v s = s) ∧
    (s.target a = .device → busWrite a v s = { s with busLog := .write a v :: s.busLog }) ∧
    (s.target a = .ram → (busWrite a v s).busLog = .write a v :: s.busLog)) ∧
  ∀ (BusState : Type) (B : Bus BusState) (init : Word → Byte) (s : State) (a : Word) (v : Byte),
    honours B s.busMap init → holdsLastWrites init s →
      (busReadOn B a s).1 = (B.read (B.after s.busLog) a).2 ∧
      B.after (busReadOn B a s).2.busLog = (B.read (B.after s.busLog) a).1 ∧
      B.after (busWrite a v s).busLog = B.write (B.after s.busLog) a v ∧
      holdsLastWrites init (busReadOn B a s).2 ∧ holdsLastWrites init (busWrite a v s)

/-! ## The resolvers (41_addressing_modes.md) -/

/-- R112 to R120: the modes without a pointer. ABX and ABY give the sum mod 2^16, and request the extra cycle exactly
when its high byte differs from the unindexed one. That these resolvers make no access rests on the model's choice (log
entry 7): the operand bytes, which R114 to R120 and R125 have them read, are read in the fetch. -/
def Obligations.ResolversGiveTheirAddress : Prop :=
  ∀ (s : State) (b : Byte) (w : Word),
    resolve .imp s = (false, { s with fetched := s.a }) ∧
    resolve (.imm b) s = (false, { s with addrAbs := s.pc, pc := s.pc + 1#16 }) ∧
    (∃ t, resolve (.zp b) s = (false, { s with addrAbs := t, pc := s.pc + 1#16 }) ∧ t.toNat = b.toNat) ∧
    (∃ t, resolve (.zpx b) s = (false, { s with addrAbs := t, pc := s.pc + 1#16 }) ∧
      t.toNat = (b.toNat + s.x.toNat) % 256) ∧
    (∃ t, resolve (.zpy b) s = (false, { s with addrAbs := t, pc := s.pc + 1#16 }) ∧
      t.toNat = (b.toNat + s.y.toNat) % 256) ∧
    (∃ t, resolve (.rel b) s = (false, { s with addrRel := t, pc := s.pc + 1#16 }) ∧ t.toInt = b.toInt) ∧
    resolve (.abs w) s = (false, { s with addrAbs := w, pc := s.pc + 2#16 }) ∧
    (∃ t r, resolve (.abx w) s = (r, { s with addrAbs := t, pc := s.pc + 2#16 }) ∧
      t.toNat = (w.toNat + s.x.toNat) % 65536 ∧ r = decide (t.toNat / 256 ≠ w.toNat / 256)) ∧
    (∃ t r, resolve (.aby w) s = (r, { s with addrAbs := t, pc := s.pc + 2#16 }) ∧
      t.toNat = (w.toNat + s.y.toNat) % 65536 ∧ r = decide (t.toNat / 256 ≠ w.toNat / 256))

/-- R121 to R123 in plain RAM: the pointer reads wrap in the pointer's page (IND, the page-wrap defect) or in page 0
(IZX, IZY). -/
def Obligations.PointerResolversWrapInTheirPage : Prop :=
  ∀ (s : State) (b : Byte) (w : Word), allRam s →
    resolve (.ind w) s = (false, { s with
      addrAbs := ramWord s w (BitVec.ofNat 16 (w.toNat / 256 * 256 + (w.toNat + 1) % 256)), pc := s.pc + 2#16 }) ∧
    resolve (.izx b) s = (false, { s with
      addrAbs := ramWord s (BitVec.ofNat 16 ((b.toNat + s.x.toNat) % 256))
        (BitVec.ofNat 16 ((b.toNat + s.x.toNat + 1) % 256)), pc := s.pc + 1#16 }) ∧
    (∃ t r, resolve (.izy b) s = (r, { s with addrAbs := t, pc := s.pc + 1#16 }) ∧
      let p := ramWord s (BitVec.ofNat 16 b.toNat) (BitVec.ofNat 16 ((b.toNat + 1) % 256))
      t.toNat = (p.toNat + s.y.toNat) % 65536 ∧ r = decide (t.toNat / 256 ≠ p.toNat / 256))

/-- R110: a resolver never writes A, X, Y, SP, P or the bus, and only ABX, ABY and IZY can request an extra cycle. That it
makes at most two reads is the model's choice (log entry 7): its operand bytes, up to two more reads in R113 to R123, are
read in the fetch. -/
def Obligations.ResolversWriteNoRegisterAndNoMemory : Prop :=
  ∀ (o : Operand) (s : State),
    let t := (resolve o s).2
    sameRegs s t ∧ t.p = s.p ∧ t.mem = s.mem ∧ t.temp = s.temp ∧ t.cycles = s.cycles ∧ sameOuter s t ∧
      (∃ reads, t.busLog = reads ++ s.busLog ∧ reads.length ≤ 2 ∧ ∀ e ∈ reads, ∃ a, e = .read a) ∧
      ((resolve o s).1 = true → o.mode = .abx ∨ o.mode = .aby ∨ o.mode = .izy)

/-- R111: the operand is A for IMP, the operand byte for IMM, else the byte at `addr_abs`, and it is left in
`fetched`. -/
def Obligations.FetchOperandReadsTheOperand : Prop :=
  ∀ (i : Instr) (s : State), allRam s →
    operandRead i s = (operandByte i s, { atHandler i s with fetched := operandByte i s }) ∧
    (i.operand.mode = .imp → operandByte i s = s.a) ∧
    (∀ v, i.operand = .imm v → operandByte i s = v) ∧
    (i.operand.mode ≠ .imp → i.operand.mode ≠ .imm → operandByte i s = ramByte s (ea i s))

/-! ## The access list (R56, R65), seen by a bus on which every address is a peripheral -/

/-- The accesses of the fetch: the opcode byte, then the operand bytes the entry has, each once, in address order; BRK's
padding byte is never read (R184). That the operand bytes are read here and not in the resolver (R113 to R123) or the
handler (R111) is the model's choice (log entry 7). -/
def Obligations.FetchReadsEachInstructionByteOnce : Prop :=
  ∀ s : State, allDevice s →
    let op := Config.bus.answer s.busLog s.pc
    let n := if op = 0x00#8 then 0 else (table op).mode.operandBytes
    (fetch s).2 = { s with
      opcode := op
      pc := s.pc + 1#16
      busLog := ((List.range (n + 1)).map fun k => BusAccess.read (s.pc + BitVec.ofNat 16 k)).reverse ++ s.busLog } ∧
    (fetch s).1.opcode = op

/-- The accesses of the resolvers after the fetch: two pointer reads, low byte first, for IND, IZX and IZY (R121 to
R123), and none for any other mode (no dummy reads, R56). The reads of the operand bytes, which R114 to R123 list among a
resolver's, are in the fetch by the model's choice (log entry 7). -/
def Obligations.ResolversReadOnlyTheirPointer : Prop :=
  ∀ (i : Instr) (s : State), allDevice s →
    (atHandler i s).busLog =
      match i.operand with
      | .ind w => .read (BitVec.ofNat 16 (w.toNat / 256 * 256 + (w.toNat + 1) % 256)) :: .read w :: s.busLog
      | .izx b => .read (BitVec.ofNat 16 ((b.toNat + s.x.toNat + 1) % 256)) ::
          .read (BitVec.ofNat 16 ((b.toNat + s.x.toNat) % 256)) :: s.busLog
      | .izy b => .read (BitVec.ofNat 16 ((b.toNat + 1) % 256)) :: .read (BitVec.ofNat 16 b.toNat) :: s.busLog
      | _ => s.busLog

/-- The accesses of the handlers: one read at `addr_abs` for a handler that reads a memory operand, and one write after
it for a read-modify-write (R55, R174); one write for a store; the pushes and pulls of the stack instructions; no other
access. The IMM forms make none here: their operand byte, which R111 and R113 have the handler read, is read in the fetch
by the model's choice (log entry 7). -/
def Obligations.HandlersMakeOnlyTheirAccesses : Prop :=
  ∀ (i : Instr) (s : State), allDevice s →
    let u := atHandler i s
    let e := ea i s
    ∃ t, exec i s = .next t ∧
      (i.handler ∈ [.adc, .and, .bit, .cmp, .cpx, .cpy, .eor, .lda, .ldx, .ldy, .ora, .sbc] →
        t.busLog = if i.operand.mode = .imm then u.busLog else .read e :: u.busLog) ∧
      (i.handler ∈ [.asl, .lsr, .rol, .ror, .inc, .dec] →
        if i.operand.mode = .imp then t.busLog = u.busLog
        else ∃ v, t.busLog = .write e v :: .read e :: u.busLog) ∧
      (i.handler = .sta → t.busLog = .write e s.a :: u.busLog) ∧
      (i.handler = .stx → t.busLog = .write e s.x :: u.busLog) ∧
      (i.handler = .sty → t.busLog = .write e s.y :: u.busLog) ∧
      (i.handler = .pha → t.busLog = .write (stackByte s.sp) s.a :: u.busLog) ∧
      (i.handler = .php → t.busLog = .write (stackByte s.sp) (pbyte s.p ||| 0x10#8) :: u.busLog) ∧
      (i.handler ∈ [.pla, .plp] → t.busLog = .read (stackByte (s.sp + 1#8)) :: u.busLog) ∧
      (i.handler = .jsr → t.busLog = .write (stackByte (s.sp - 1#8)) (loByte (s.pc + 1#16)) ::
        .write (stackByte s.sp) (hiByte (s.pc + 1#16)) :: u.busLog) ∧
      (i.handler = .rts → t.busLog = .read (stackByte (s.sp + 2#8)) :: .read (stackByte (s.sp + 1#8)) :: u.busLog) ∧
      (i.handler = .rti → t.busLog = .read (stackByte (s.sp + 3#8)) :: .read (stackByte (s.sp + 2#8)) ::
        .read (stackByte (s.sp + 1#8)) :: u.busLog) ∧
      (i.handler = .brk → t.busLog = .read 0xFFFF#16 :: .read 0xFFFE#16 ::
        .write (stackByte (s.sp - 2#8)) (pbyte s.p ||| 0x10#8) ::
        .write (stackByte (s.sp - 1#8)) (loByte (s.pc + 1#16)) ::
        .write (stackByte s.sp) (hiByte (s.pc + 1#16)) :: u.busLog) ∧
      (i.handler ∈ [.bcc, .bcs, .beq, .bmi, .bne, .bpl, .bvc, .bvs, .clc, .cld, .cli, .clv, .sec, .sed, .sei, .dex, .dey,
        .inx, .iny, .jmp, .nop, .tax, .tay, .tsx, .txa, .txs, .tya, .xxx] → t.busLog = u.busLog)

/-- R65: a store is seen by the fetch of the very next instruction. -/
def Obligations.StoredByteIsTheNextOpcodeFetched : Prop :=
  ∀ (i : Instr) (s : State), (encodes .sta i ∨ encodes .stx i ∨ encodes .sty i) → allRam s → s.mem.wf = true →
    ea i s = pcPast i s →
    ∃ t, exec i s = .next t ∧
      (fetch t).2.opcode = (if i.handler = .sta then s.a else if i.handler = .stx then s.x else s.y) ∧
      (fetch t).1.opcode = (fetch t).2.opcode

/-! ## Loads, stores and transfers (42_load_store_transfer.md) -/

/-- R140 to R142: the register takes the operand, Z and N come from it; h = 1. Nothing else changes. -/
def Obligations.LoadsTakeTheOperand : Prop :=
  ∀ h ∈ [Handler.lda, .ldx, .ldy], ∀ (i : Instr) (s : State), encodes h i →
    listed h i ∧
    ∃ t, exec i s = .next t ∧
      t.a = (if h = .lda then operandByte i s else s.a) ∧
      t.x = (if h = .ldx then operandByte i s else s.x) ∧
      t.y = (if h = .ldy then operandByte i s else s.y) ∧
      t.sp = s.sp ∧ t.p = zn (operandByte i s) s.p ∧ t.temp = s.temp ∧ t.cycles = pageCost i s ∧
      operandFrame i s t ∧ busAfterRead i s t ∧ sameMemory s t

/-- R143 to R145: the register is written at the effective address; no flag changes; h = 0. -/
def Obligations.StoresWriteTheRegister : Prop :=
  ∀ h ∈ [Handler.sta, .stx, .sty], ∀ (i : Instr) (s : State), encodes h i → s.mem.wf = true →
    listed h i ∧
    ∃ t, exec i s = .next t ∧
      (s.target (ea i s) = .ram →
        ramByte t (ea i s) = if h = .sta then s.a else if h = .stx then s.x else s.y) ∧
      busAfterWrite (ea i s) (if h = .sta then s.a else if h = .stx then s.x else s.y) (atHandler i s) t ∧
      sameMemoryBut [ea i s] s t ∧ sameRegs s t ∧ t.p = s.p ∧ t.pc = pcPast i s ∧ t.addrAbs = ea i s ∧
      t.addrRel = s.addrRel ∧ t.fetched = s.fetched ∧ t.temp = s.temp ∧ sameOuter s t ∧ t.cycles = i.entry.base

/-- R146 to R151: the destination takes the source, Z and N come from it, except TXS, which changes no flag. -/
def Obligations.TransfersCopyOneRegister : Prop :=
  ∀ h ∈ [Handler.tax, .tay, .txa, .tya, .tsx, .txs], ∀ (i : Instr) (s : State), encodes h i →
    listed h i ∧
    ∃ t, exec i s = .next t ∧
      t.a = (if h = .txa then s.x else if h = .tya then s.y else s.a) ∧
      t.x = (if h = .tax then s.a else if h = .tsx then s.sp else s.x) ∧
      t.y = (if h = .tay then s.a else s.y) ∧
      t.sp = (if h = .txs then s.x else s.sp) ∧
      t.p = (if h = .txs then s.p else if h = .tsx then zn s.sp s.p else if h = .txa then zn s.x s.p
        else if h = .tya then zn s.y s.p else zn s.a s.p) ∧
      t.pc = s.pc ∧ impliedFrame s t ∧ t.busLog = s.busLog ∧ sameMemory s t ∧ t.cycles = 2#8

/-! ## The stack (43_stack.md, R58) -/

/-- R160, R161: A, or P with bits 4 and 5 set, is written at 0x0100 + SP, and SP goes down by 1 mod 2^8. -/
def Obligations.PushesWriteThenDecrement : Prop :=
  ∀ h ∈ [Handler.pha, .php], ∀ (i : Instr) (s : State), encodes h i → s.mem.wf = true →
    listed h i ∧
    ∃ t, exec i s = .next t ∧
      (s.target (stackByte s.sp) = .ram →
        ramByte t (stackByte s.sp) = if h = .pha then s.a else pbyte s.p ||| 0x10#8) ∧
      busAfterWrite (stackByte s.sp) (if h = .pha then s.a else pbyte s.p ||| 0x10#8) s t ∧
      sameMemoryBut [stackByte s.sp] s t ∧ t.sp.toNat = (s.sp.toNat + 255) % 256 ∧
      t.a = s.a ∧ t.x = s.x ∧ t.y = s.y ∧ t.p = s.p ∧ t.pc = s.pc ∧ impliedFrame s t ∧ t.cycles = 3#8

/-- R162, R163: SP goes up by 1 mod 2^8 and the byte there goes to A with Z and N from it (PLA), or to every stored
flag (PLP). -/
def Obligations.PullsIncrementThenRead : Prop :=
  ∀ h ∈ [Handler.pla, .plp], ∀ (i : Instr) (s : State), encodes h i → s.target (stackByte (s.sp + 1#8)) = .ram →
    let m := ramByte s (stackByte (s.sp + 1#8))
    listed h i ∧
    ∃ t, exec i s = .next t ∧
      t.sp.toNat = (s.sp.toNat + 1) % 256 ∧ t.a = (if h = .pla then m else s.a) ∧ t.x = s.x ∧ t.y = s.y ∧
      t.p = (if h = .pla then zn m s.p
        else { c := m.getLsbD 0, z := m.getLsbD 1, i := m.getLsbD 2, d := m.getLsbD 3, b := m.getLsbD 4,
               v := m.getLsbD 6, n := m.getLsbD 7 }) ∧
      t.pc = s.pc ∧ impliedFrame s t ∧ t.busLog = s.busLog ∧ sameMemory s t ∧ t.cycles = 4#8

/-- The stack round trip: a PHA and then a PLA, whatever PC and flags lie between, restore A and leave SP where it was
(R162, corner cases). -/
def Obligations.PhaThenPlaRestoresA : Prop :=
  ∀ (s : State), s.mem.wf = true → s.target (stackByte s.sp) = .ram →
    ∃ t, exec .pha s = .next t ∧
      ∀ (a : Byte) (pc : Word) (p : Status), ∃ u, exec .pla { t with a := a, pc := pc, p := p } = .next u ∧
        u.a = s.a ∧ u.sp = s.sp ∧ u.x = s.x ∧ u.y = s.y

/-- The combined read and write of P (R31, R34, R35): U always reads 1, and every stored flag survives a write back. -/
def Obligations.StatusByteReadsBackWithBitFiveSet : Prop :=
  (∀ b : Byte, (pbyte (statusOf b)).toNat = b.toNat ||| 0x20) ∧ (∀ p : Status, statusOf (pbyte p) = p) ∧
    ∀ p : Status, (pbyte p).toNat =
      bit p.n * 128 + bit p.v * 64 + 32 + bit p.b * 16 + bit p.d * 8 + bit p.i * 4 + bit p.z * 2 + bit p.c

/-! ## Shifts and rotates (44_shift_rotate.md) -/

/-- R170 to R174 on A: the result, the bit shifted out in C, Z and N from the result. -/
def Obligations.ShiftsOfTheAccumulator : Prop :=
  ∀ h ∈ [Handler.asl, .lsr, .rol, .ror], ∀ (i : Instr) (s : State), encodes h i → i.operand.mode = .imp →
    let r := (if h = .asl then 2 * s.a.toNat % 256 else if h = .lsr then s.a.toNat / 2
      else if h = .rol then (2 * s.a.toNat + bit s.p.c) % 256 else s.a.toNat / 2 + 128 * bit s.p.c)
    let out := (if h = .asl ∨ h = .rol then decide (128 ≤ s.a.toNat) else decide (s.a.toNat % 2 = 1))
    listed h i ∧
    ∃ t, exec i s = .next t ∧
      t.a.toNat = r ∧ t.p = { s.p with c := out, z := decide (r = 0), n := decide (128 ≤ r) } ∧
      t.x = s.x ∧ t.y = s.y ∧ t.sp = s.sp ∧ t.pc = s.pc ∧ t.addrAbs = s.addrAbs ∧ t.addrRel = s.addrRel ∧
      t.fetched = s.a ∧
      t.temp.toNat = (if h = .asl then 2 * s.a.toNat else if h = .rol then 2 * s.a.toNat + bit s.p.c else r) ∧
      sameOuter s t ∧ t.busLog = s.busLog ∧ sameMemory s t ∧ t.cycles = 2#8

/-- R170 to R174 on memory: the result goes back to the address it was read from. -/
def Obligations.ShiftsOfMemory : Prop :=
  ∀ h ∈ [Handler.asl, .lsr, .rol, .ror], ∀ (i : Instr) (s : State), encodes h i → i.operand.mode ≠ .imp →
    s.mem.wf = true →
    let m := (operandByte i s).toNat
    let r := (if h = .asl then 2 * m % 256 else if h = .lsr then m / 2
      else if h = .rol then (2 * m + bit s.p.c) % 256 else m / 2 + 128 * bit s.p.c)
    let out := (if h = .asl ∨ h = .rol then decide (128 ≤ m) else decide (m % 2 = 1))
    listed h i ∧
    ∃ t, exec i s = .next t ∧
      (s.target (ea i s) = .ram → (ramByte t (ea i s)).toNat = r) ∧
      busAfterWrite (ea i s) (BitVec.ofNat 8 r) (operandRead i s).2 t ∧ sameMemoryBut [ea i s] s t ∧
      t.p = { s.p with c := out, z := decide (r = 0), n := decide (128 ≤ r) } ∧ sameRegs s t ∧
      t.temp.toNat = (if h = .asl then 2 * m else if h = .rol then 2 * m + bit s.p.c else r) ∧ operandFrame i s t ∧
      t.cycles = i.entry.base

/-! ## Arithmetic, logic, compare, increment and decrement (47_alu.md) -/

/-- R221: (C', A') is the exact 9-bit sum, V says the signed sum does not fit, Z and N come from the result, D plays no
part (R220); h = 1. -/
def Obligations.AdcIsTheExactNineBitSum : Prop :=
  ∀ (i : Instr) (s : State), encodes .adc i →
    let m := operandByte i s
    listed .adc i ∧
    ∃ t, exec i s = .next t ∧
      t.a.toNat + 256 * bit t.p.c = s.a.toNat + m.toNat + bit s.p.c ∧
      t.p = zn t.a { s.p with c := t.p.c, v := decide (s.a.toInt + m.toInt + bit s.p.c < -128 ∨
        127 < s.a.toInt + m.toInt + bit s.p.c) } ∧
      t.temp.toNat = s.a.toNat + m.toNat + bit s.p.c ∧ t.x = s.x ∧ t.y = s.y ∧ t.sp = s.sp ∧
      operandFrame i s t ∧ busAfterRead i s t ∧ sameMemory s t ∧ t.cycles = pageCost i s

/-- R222, R237: A - M - (1 - C) mod 256, C says there was no borrow, V says the signed difference does not fit; h = 1. -/
def Obligations.SbcSubtractsWithBorrow : Prop :=
  ∀ (i : Instr) (s : State), encodes .sbc i →
    let m := operandByte i s
    let d : Int := s.a.toInt - m.toInt - (1 - bit s.p.c)
    listed .sbc i ∧
    ∃ t, exec i s = .next t ∧
      (t.a.toNat : Int) = ((s.a.toNat : Int) - m.toNat - (1 - bit s.p.c)) % 256 ∧
      t.p = zn t.a { s.p with c := decide (m.toNat + (1 - bit s.p.c) ≤ s.a.toNat),
                              v := decide (d < -128 ∨ 127 < d) } ∧
      t.temp.toNat = s.a.toNat + (255 - m.toNat) + bit s.p.c ∧ t.x = s.x ∧ t.y = s.y ∧ t.sp = s.sp ∧
      operandFrame i s t ∧ busAfterRead i s t ∧ sameMemory s t ∧ t.cycles = pageCost i s

/-- R223 to R225: the logic of A and M, Z and N from the result, C and V unchanged; h = 1. -/
def Obligations.LogicWritesAAndSetsZN : Prop :=
  ∀ h ∈ [Handler.and, .ora, .eor], ∀ (i : Instr) (s : State), encodes h i →
    listed h i ∧
    ∃ t, exec i s = .next t ∧
      (∀ k, t.a.getLsbD k = (if h = .and then s.a.getLsbD k && (operandByte i s).getLsbD k
        else if h = .ora then s.a.getLsbD k || (operandByte i s).getLsbD k
        else s.a.getLsbD k != (operandByte i s).getLsbD k)) ∧
      t.p = zn t.a s.p ∧ t.temp = s.temp ∧ t.x = s.x ∧ t.y = s.y ∧ t.sp = s.sp ∧ operandFrame i s t ∧
      busAfterRead i s t ∧ sameMemory s t ∧ t.cycles = pageCost i s

/-- R226: Z from A & M, N and V from bits 7 and 6 of M, A unchanged; h = 0. -/
def Obligations.BitTestsWithoutWritingA : Prop :=
  ∀ (i : Instr) (s : State), encodes .bit i →
    let m := operandByte i s
    listed .bit i ∧
    ∃ t, exec i s = .next t ∧
      t.p = { s.p with z := decide (s.a.toNat &&& m.toNat = 0), n := m.toNat.testBit 7, v := m.toNat.testBit 6 } ∧
      t.temp.toNat = s.a.toNat &&& m.toNat ∧ sameRegs s t ∧ operandFrame i s t ∧
      busAfterRead i s t ∧ sameMemory s t ∧
      t.cycles = if i.operand.mode = .zp then 3#8 else 4#8

/-- R227 to R230: C = (r >= M), Z = (r = M), N = bit 7 of r - M mod 256, nothing stored; h = 1 for CMP only. -/
def Obligations.ComparesSetFlagsOnly : Prop :=
  ∀ h ∈ [Handler.cmp, .cpx, .cpy], ∀ (i : Instr) (s : State), encodes h i →
    let r := (if h = .cmp then s.a else if h = .cpx then s.x else s.y).toNat
    let m := (operandByte i s).toNat
    listed h i ∧
    ∃ t, exec i s = .next t ∧
      t.p = { s.p with c := decide (m ≤ r), z := decide (r = m), n := decide (128 ≤ (r + 256 - m) % 256) } ∧
      t.temp.toNat = (r + 65536 - m) % 65536 ∧ sameRegs s t ∧ operandFrame i s t ∧
      busAfterRead i s t ∧ sameMemory s t ∧
      t.cycles = if h = .cmp then pageCost i s else i.entry.base

/-- R231, R232: M ± 1 mod 256 goes back to its address, Z and N come from it, C and V are unchanged; h = 0. -/
def Obligations.IncDecWriteMemoryBack : Prop :=
  ∀ h ∈ [Handler.inc, .dec], ∀ (i : Instr) (s : State), encodes h i → s.mem.wf = true →
    let m := (operandByte i s).toNat
    let r := if h = .inc then (m + 1) % 256 else (m + 255) % 256
    listed h i ∧
    ∃ t, exec i s = .next t ∧
      (s.target (ea i s) = .ram → (ramByte t (ea i s)).toNat = r) ∧
      busAfterWrite (ea i s) (BitVec.ofNat 8 r) (operandRead i s).2 t ∧ sameMemoryBut [ea i s] s t ∧
      t.p = { s.p with z := decide (r = 0), n := decide (128 ≤ r) } ∧
      t.temp.toNat = (if h = .inc then m + 1 else (m + 65535) % 65536) ∧ sameRegs s t ∧ operandFrame i s t ∧
      t.cycles = i.entry.base

/-- R233 to R236: X or Y plus or minus 1 mod 256, Z and N from it. -/
def Obligations.IndexRegistersStepByOne : Prop :=
  ∀ h ∈ [Handler.inx, .iny, .dex, .dey], ∀ (i : Instr) (s : State), encodes h i →
    let old := (if h = .inx ∨ h = .dex then s.x else s.y).toNat
    let r := if h = .inx ∨ h = .iny then (old + 1) % 256 else (old + 255) % 256
    listed h i ∧
    ∃ t, exec i s = .next t ∧
      t.x.toNat = (if h = .inx ∨ h = .dex then r else s.x.toNat) ∧
      t.y.toNat = (if h = .inx ∨ h = .dex then s.y.toNat else r) ∧
      t.p = { s.p with z := decide (r = 0), n := decide (128 ≤ r) } ∧ t.a = s.a ∧ t.sp = s.sp ∧ t.pc = s.pc ∧
      impliedFrame s t ∧ t.busLog = s.busLog ∧ sameMemory s t ∧ t.cycles = 2#8

/-- R220: D never changes the result or the other flags of ADC and SBC. Two states that differ only in D end in states
that differ only in D. Where the operand is not plain RAM this rests on the model's choice (log entry 4) that two states
with one access list are on one bus in one state, so that both reads get the same free value. -/
def Obligations.DecimalFlagChangesNoResult : Prop :=
  ∀ (i : Instr) (s : State) (d : Bool), (encodes .adc i ∨ encodes .sbc i) →
    ∃ t, exec i s = .next t ∧ t.p.d = s.p.d ∧
      exec i { s with p := { s.p with d := d } } = .next { t with p := { t.p with d := d } }

/-! ## Flag instructions and NOP (46_flag_ops.md, 48_nop_illegal.md) -/

/-- R210 to R216: one flag is written and nothing else. -/
def Obligations.FlagInstructionsWriteOneFlag : Prop :=
  ∀ h ∈ [Handler.clc, .cld, .cli, .clv, .sec, .sed, .sei], ∀ (i : Instr) (s : State), encodes h i →
    listed h i ∧
    exec i s = .next { s with
      fetched := s.a
      cycles := 2#8
      p := { s.p with
        c := if h = .clc then false else if h = .sec then true else s.p.c
        d := if h = .cld then false else if h = .sed then true else s.p.d
        i := if h = .cli then false else if h = .sei then true else s.p.i
        v := if h = .clv then false else s.p.v } }

/-- R250 to R252: NOP and each of the 105 unassigned opcodes change nothing but `fetched` and `cycles`, which is the
base cost alone, whatever the state: the extra cycle six of them request is never charged. -/
def Obligations.NopAndUnassignedOnlyPassTime : Prop :=
  ∀ (i : Instr) (s : State), (i.opcode = 0xEA#8 ∨ i.opcode ∈ unassignedOpcodes) →
    i.operand = .imp ∧ exec i s = .next { s with fetched := s.a, cycles := i.entry.base }

/-! ## Control transfer (45_control_flow.md) -/

/-- R180: PC takes the resolved address; IND with the page-wrap defect (R121). That JMP ABS makes no access after the fetch
rests on the model's choice (log entry 7): the two operand bytes, which R118 has the resolver read, are read in the fetch. -/
def Obligations.JmpGoesToTheResolvedAddress : Prop :=
  (∀ (w : Word) (s : State),
    exec (.jmpAbs w) s = .next { s with pc := w, addrAbs := w, cycles := 3#8 }) ∧
  ∀ (w : Word) (s : State), allRam s →
    let target := ramWord s w (BitVec.ofNat 16 (w.toNat / 256 * 256 + (w.toNat + 1) % 256))
    exec (.jmpInd w) s = .next { s with pc := target, addrAbs := target, cycles := 5#8 }

/-- R181: PC - 1, the address of the last byte of the JSR, is pushed high byte first; PC takes the target. `s.pc` is the
address of the first operand byte, so PC - 1 is `s.pc + 1`. -/
def Obligations.JsrPushesTheLastByteOfTheCall : Prop :=
  ∀ (w : Word) (s : State), allRam s → s.mem.wf = true →
    (Instr.jsr w).opcode = 0x20#8 ∧
    ∃ t, exec (.jsr w) s = .next t ∧
      ramByte t (stackByte s.sp) = hiByte (s.pc + 1#16) ∧ ramByte t (stackByte (s.sp - 1#8)) = loByte (s.pc + 1#16) ∧
      sameMemoryBut [stackByte s.sp, stackByte (s.sp - 1#8)] s t ∧ t.sp = s.sp - 2#8 ∧ t.pc = w ∧ t.addrAbs = w ∧
      t.a = s.a ∧ t.x = s.x ∧ t.y = s.y ∧ t.p = s.p ∧ t.addrRel = s.addrRel ∧ t.fetched = s.fetched ∧
      t.temp = s.temp ∧ sameOuter s t ∧
      t.busLog = .write (stackByte (s.sp - 1#8)) (loByte (s.pc + 1#16)) ::
        .write (stackByte s.sp) (hiByte (s.pc + 1#16)) :: s.busLog ∧ t.cycles = 6#8

/-- R182: the pulled word, low byte first, plus one. -/
def Obligations.RtsReturnsPastThePulledAddress : Prop :=
  ∀ (s : State), allRam s →
    Instr.rts.opcode = 0x60#8 ∧
    exec .rts s = .next { s with
      pc := ramWord s (stackByte (s.sp + 1#8)) (stackByte (s.sp + 2#8)) + 1#16
      sp := s.sp + 2#8
      fetched := s.a
      cycles := 6#8 }

/-- R183: every stored flag but B from the pulled byte, B cleared, PC from the next two bytes with no increment. -/
def Obligations.RtiRestoresFlagsAndPc : Prop :=
  ∀ (s : State), allRam s →
    let m := ramByte s (stackByte (s.sp + 1#8))
    Instr.rti.opcode = 0x40#8 ∧
    exec .rti s = .next { s with
      p := { c := m.getLsbD 0, z := m.getLsbD 1, i := m.getLsbD 2, d := m.getLsbD 3, b := false, v := m.getLsbD 6,
             n := m.getLsbD 7 }
      pc := ramWord s (stackByte (s.sp + 2#8)) (stackByte (s.sp + 3#8))
      sp := s.sp + 3#8
      fetched := s.a
      cycles := 6#8 }

/-- R184: BRK pushes the address of BRK + 2, high byte first, and the status with bit 4 set and the old I; then I = 1
and PC is the word at 0xFFFE. `s.pc` is the address of BRK + 1. -/
def Obligations.BrkEntersThroughTheIrqVector : Prop :=
  ∀ (s : State), allRam s → s.mem.wf = true →
    Instr.brk.opcode = 0x00#8 ∧
    ∃ t, exec .brk s = .next t ∧
      ramByte t (stackByte s.sp) = hiByte (s.pc + 1#16) ∧ ramByte t (stackByte (s.sp - 1#8)) = loByte (s.pc + 1#16) ∧
      ramByte t (stackByte (s.sp - 2#8)) = pbyte s.p ||| 0x10#8 ∧
      sameMemoryBut [stackByte s.sp, stackByte (s.sp - 1#8), stackByte (s.sp - 2#8)] s t ∧
      t.sp = s.sp - 3#8 ∧ t.p = { s.p with i := true } ∧ t.pc = ramWord s 0xFFFE#16 0xFFFF#16 ∧ t.addrAbs = s.pc ∧
      t.a = s.a ∧ t.x = s.x ∧ t.y = s.y ∧ t.addrRel = s.addrRel ∧ t.fetched = s.fetched ∧ t.temp = s.temp ∧
      sameOuter s t ∧
      t.busLog = .write (stackByte (s.sp - 2#8)) (pbyte s.p ||| 0x10#8) ::
        .write (stackByte (s.sp - 1#8)) (loByte (s.pc + 1#16)) ::
        .write (stackByte s.sp) (hiByte (s.pc + 1#16)) :: s.busLog ∧ t.cycles = 7#8

/-- The call round trip: a JSR, then an RTS with SP and the two stack bytes as the JSR left them, comes back to the
instruction after the JSR (R182, corner cases), with SP restored. -/
def Obligations.JsrThenRtsReturnsAfterTheCall : Prop :=
  ∀ (w : Word) (s : State), allRam s → s.mem.wf = true →
    ∃ t, exec (.jsr w) s = .next t ∧
      ∀ u : State, allRam u → u.sp = t.sp → ramByte u (stackByte (t.sp + 1#8)) = ramByte t (stackByte (t.sp + 1#8)) →
        ramByte u (stackByte (t.sp + 2#8)) = ramByte t (stackByte (t.sp + 2#8)) →
        ∃ v, exec .rts u = .next v ∧ v.pc = s.pc + 2#16 ∧ v.sp = s.sp ∧ v.a = u.a ∧ v.x = u.x ∧ v.y = u.y ∧ v.p = u.p

/-- R185 to R193: each branch tests its flag; taken, it goes to the next instruction's address plus the signed
displacement, mod 2^16, and costs 3 in the same page as the next instruction, 4 in another; not taken, it costs 2. That no
access is made after the fetch rests on the model's choice (log entry 7) that the displacement, which R117 has the resolver
read, is read in the fetch. -/
def Obligations.BranchesTestTheirFlag : Prop :=
  ∀ h ∈ [Handler.bcc, .bcs, .beq, .bmi, .bne, .bpl, .bvc, .bvs], ∀ (i : Instr) (s : State), encodes h i →
    listed h i ∧
    ∃ (b : Byte) (t : State), i.operand = .rel b ∧ exec i s = .next t ∧
      let next := s.pc + 1#16
      let taken := branchTaken h s.p = some true
      (taken → (t.pc.toNat : Int) = ((next.toNat : Int) + b.toInt) % 65536 ∧ t.addrAbs = t.pc ∧
        t.cycles = if t.pc.toNat / 256 = next.toNat / 256 then 3#8 else 4#8) ∧
      (¬ taken → t.pc = next ∧ t.addrAbs = s.addrAbs ∧ t.cycles = 2#8) ∧
      t.addrRel.toInt = b.toInt ∧ t.p = s.p ∧ sameRegs s t ∧ t.fetched = s.fetched ∧ t.temp = s.temp ∧
      sameOuter s t ∧ t.busLog = s.busLog ∧ sameMemory s t

/-! ## The engine (49_execution_engine.md) -/

/-- A step runs the decoded instruction: at a boundary with no interrupt to take, when the bytes at PC (plain RAM)
decode to `i`, the step is `exec i` of the state with that opcode byte in `opcode` and PC past it, and then the tick's
decrement (R262, R264). -/
def Obligations.StepRunsTheDecodedInstruction : Prop :=
  ∀ (s : State) (irq : Bool) (calls : List HostCall) (i : Instr) (rest : List Byte),
    s.cycles = 0#8 → s.nmiPending = false → ticksNext irq calls s → (irq = true → s.p.i = true) →
    s.target s.pc = .ram → s.target (s.pc + 1#16) = .ram → s.target (s.pc + 2#16) = .ram →
    decode [ramByte s s.pc, ramByte s (s.pc + 1#16), ramByte s (s.pc + 2#16)] = .ok (i, rest) →
    ∃ t, exec i { s with opcode := ramByte s s.pc, pc := s.pc + 1#16, hostCalls := calls } = .next t ∧
      step s = .next { t with cycles := t.cycles - 1#8 }

/-- R266: a Mid-instruction tick changes only `cycles`, by -1 (and the host's call is taken from its list). -/
def Obligations.MidInstructionTickOnlyCountsDown : Prop :=
  ∀ (s : State) (irq : Bool) (calls : List HostCall), s.cycles ≠ 0#8 → ticksNext irq calls s →
    step s = .next { s with cycles := BitVec.ofNat 8 (s.cycles.toNat - 1), hostCalls := calls }

/-- R269: `tick` is total for every state and every bus; so is every other call of the host. -/
def Obligations.EveryStepAnswersANextState : Prop :=
  ∀ s : State, ∃ t, step s = .next t

/-- R263: every one of the 256 instructions answers a next state in every state, and charges its base cost, plus one
when both the resolver and the handler ask for it, plus the branch penalty. -/
def Obligations.EveryInstructionCompletesAndChargesItsCost : Prop :=
  ∀ (i : Instr) (s : State), ∃ t, exec i s = .next t ∧
    t.cycles = i.entry.base + (if pageCrossed i s ∧ i.handler ∈ requesting then 1#8 else 0#8) + branchPenalty i s

/-- R270: exactly 23 opcodes have a charge that depends on the data through the page-cross cycle, and cost their base
plus 1 when the indexed address crosses a page; the eight branches cost 2, 3 or 4; every other opcode has a fixed charge
equal to its base. -/
def Obligations.ExactlyTheseOpcodesHaveAVariableCharge : Prop :=
  (∀ (i : Instr) (s : State), ∃ t, exec i s = .next t ∧
    (i.opcode ∈ pageCrossOpcodes → t.cycles = if pageCrossed i s then i.entry.base + 1#8 else i.entry.base) ∧
    (i.opcode ∈ branchOpcodes → t.cycles = 2#8 ∨ t.cycles = 3#8 ∨ t.cycles = 4#8) ∧
    (i.opcode ∉ pageCrossOpcodes → i.opcode ∉ branchOpcodes → t.cycles = i.entry.base)) ∧
  ∀ op : Byte,
    (∃ (i j : Instr) (s t s' t' : State), i.opcode = op ∧ j.opcode = op ∧ exec i s = .next s' ∧
      exec j t = .next t' ∧ s'.cycles ≠ t'.cycles) ↔ op ∈ pageCrossOpcodes ∨ op ∈ branchOpcodes

/-- R264: an instruction or interrupt entry with charge n occupies exactly n ticks, the boundary tick and n - 1
Mid-instruction ticks, and is complete at their end and at no tick before, whatever the IRQ level at any of them. First:
for every list of ticks the host makes, with any calls after them. Second: when the host has no call listed, which is
`tick(0)` at every step by the model's choice (log entry 5). -/
def Obligations.ChargeOfNTakesExactlyNTicks : Prop :=
  (∀ (s t : State) (irq : Bool) (levels : List Bool) (calls : List HostCall), s.cycles = 0#8 →
    s.hostCalls = .tick irq :: (levels.map .tick ++ calls) →
    boundaryAction irq { s with hostCalls := levels.map .tick ++ calls } = .next t →
      2 ≤ t.cycles.toNat ∧
      (t.cycles.toNat ≤ levels.length + 1 →
        takesItsTicks s t fun k => (levels.drop (k - 1)).map .tick ++ calls)) ∧
  ∀ s t : State, s.cycles = 0#8 → s.hostCalls = [] → boundaryAction false s = .next t →
    2 ≤ t.cycles.toNat ∧ takesItsTicks s t fun _ => []

/-- R351: the run to STOP ends at the first instruction boundary whose PC equals STOP: it answers n and t exactly when t
is such a boundary, n steps away and no more than the fuel, and no earlier state of the run is one. -/
def Obligations.RunToStopEndsAtTheFirstBoundaryAtStop : Prop :=
  ∀ (stop : Word) (fuel n : Nat) (s t : State), runToStop stop fuel s = some (n, t) ↔
    n ≤ fuel ∧ Sys2Proof.core.run n s = .next t ∧ t.cycles = 0#8 ∧ t.pc = stop ∧
      ∀ k, k < n → ∃ u, Sys2Proof.core.run k s = .next u ∧ ¬ (u.cycles = 0#8 ∧ u.pc = stop)

/-! ## Interrupts (60_exceptions.md) -/

/-- R303: at a boundary, NMI when it is pending, else IRQ when it is asserted and I = 0, else the instruction at PC.
Each entry leaves `cycles` at INT_CYCLES - 1 = 6 after the tick (R306). -/
def Obligations.NmiBeforeIrqBeforeTheInstruction : Prop :=
  ∀ (s : State) (irq : Bool) (calls : List HostCall), s.cycles = 0#8 → ticksNext irq calls s →
    let u := { s with hostCalls := calls }
    (s.nmiPending = true →
      step s = .next { interrupt 0xFFFA#16 { u with nmiPending := false } with cycles := 6#8 }) ∧
    (s.nmiPending = false → irq = true → s.p.i = false →
      step s = .next { interrupt 0xFFFE#16 u with cycles := 6#8 }) ∧
    (s.nmiPending = false → (irq = false ∨ s.p.i = true) →
      ∃ t, exec (fetch u).1 (fetch u).2 = .next t ∧ step s = .next { t with cycles := t.cycles - 1#8 })

/-- R306: the entry of IRQ and NMI. PC and the status byte with bit 4 clear and the old I are pushed, I becomes 1, SP
goes down by 3, PC is the word at the vector as it stands after the pushes, `cycles` is INT_CYCLES. Nothing else
changes. -/
def Obligations.InterruptEntryPushesPcAndStatus : Prop :=
  ∀ (vector : Word) (s : State), allRam s → s.mem.wf = true →
    let t := interrupt vector s
    ramByte t (stackByte s.sp) = hiByte s.pc ∧ ramByte t (stackByte (s.sp - 1#8)) = loByte s.pc ∧
      ramByte t (stackByte (s.sp - 2#8)) = pbyte s.p &&& 0xEF#8 ∧
      sameMemoryBut [stackByte s.sp, stackByte (s.sp - 1#8), stackByte (s.sp - 2#8)] s t ∧
      t = { s with
        mem := t.mem
        sp := s.sp - 3#8
        p := { s.p with i := true }
        pc := ramWord t vector (vector + 1#16)
        cycles := 7#8
        busLog := .write (stackByte (s.sp - 2#8)) (pbyte s.p &&& 0xEF#8) ::
          .write (stackByte (s.sp - 1#8)) (loByte s.pc) :: .write (stackByte s.sp) (hiByte s.pc) :: s.busLog }

/-- R307: an RTI after the handler has run, whatever the handler did, with SP and the three stack bytes as the entry left
them, resumes at the instruction that was about to be fetched, with the flags of before but B, which RTI clears, and with
SP restored. -/
def Obligations.RtiAfterAnEntryResumes : Prop :=
  ∀ (vector : Word) (s u : State), allRam s → s.mem.wf = true → allRam u →
    let e := interrupt vector s
    u.sp = e.sp → ramByte u (stackByte (e.sp + 1#8)) = ramByte e (stackByte (e.sp + 1#8)) →
    ramByte u (stackByte (e.sp + 2#8)) = ramByte e (stackByte (e.sp + 2#8)) →
    ramByte u (stackByte (e.sp + 3#8)) = ramByte e (stackByte (e.sp + 3#8)) →
    ∃ t, exec .rti u = .next t ∧
      t.pc = s.pc ∧ t.sp = s.sp ∧ t.p = { s.p with b := false } ∧ t.a = u.a ∧ t.x = u.x ∧ t.y = u.y

/-- R304: `nmi()` sets the latch, takes no tick, and changes nothing else. -/
def Obligations.NmiCallOnlySetsTheLatch : Prop :=
  ∀ (s : State) (calls : List HostCall), s.hostCalls = .nmi :: calls →
    step s = .next { s with nmiPending := true, hostCalls := calls }

/-! ## Reset (70_reset_and_hazards.md) -/

/-- R341, R342: `reset()` writes every element of the core, at any time, and only reads the bus: PC from 0xFFFC and
0xFFFD. The bus and the memory are as they were. -/
def Obligations.ResetLoadsEveryElement : Prop :=
  ∀ (s : State) (calls : List HostCall), s.hostCalls = .reset :: calls →
    ∃ t, step s = .next t ∧
      t.a = 0x00#8 ∧ t.x = 0x00#8 ∧ t.y = 0x00#8 ∧ t.sp = 0xFD#8 ∧ (pbyte t.p) = 0x24#8 ∧ t.p.b = false ∧
      t.opcode = 0x00#8 ∧ t.fetched = 0x00#8 ∧ t.addrAbs = 0x0000#16 ∧ t.addrRel = 0x0000#16 ∧ t.temp = 0x0000#16 ∧
      t.nmiPending = false ∧ t.cycles = 7#8 ∧ t.mem = s.mem ∧ t.busMap = s.busMap ∧ t.hostCalls = calls ∧
      t.pc = (read16 0xFFFC#16 s).1 ∧ t.busLog = (read16 0xFFFC#16 s).2.busLog ∧
      (allRam s → t.pc = ramWord s 0xFFFC#16 0xFFFD#16 ∧ t.busLog = s.busLog) ∧
      (allDevice s → t.busLog = .read 0xFFFD#16 :: .read 0xFFFC#16 :: s.busLog)

/-! ## Whole-machine rules -/

/-- The invariant holds at reset. -/
def Obligations.ResetMeetsTheInvariant : Prop := Inv State.reset

/-- Every step keeps the invariant: the memory stays canonical, and `cycles` never passes 7 between ticks (R41). -/
def Obligations.EveryStepKeepsTheInvariant : Prop :=
  ∀ s t : State, Inv s → step s = .next t → Inv t

/-- The accesses form one order, so their list only grows (R62), and the memory goes on holding the last byte written to
every plain-RAM address (R51, R62). The other two clauses are the model's choice and no rule of the spec: that no step
changes the address map (log entry 1), and that a step takes one host call (log entries 5 and 6). That the accesses are kept
as a list is the model's choice too (log entry 1). -/
def Obligations.EveryStepKeepsTheMapAndExtendsTheLog : Prop :=
  ∀ s t : State, step s = .next t →
    t.busMap = s.busMap ∧ t.hostCalls = s.hostCalls.tail ∧ s.busLog <:+ t.busLog ∧
      ∀ init, holdsLastWrites init s → holdsLastWrites init t

/-- Each flag is written only by the instructions R26 to R33 name. -/
def Obligations.OnlyTheNamedInstructionsWriteEachFlag : Prop :=
  ∀ (i : Instr) (s : State), ∃ t, exec i s = .next t ∧
    (i.handler ∉ [.adc, .sbc, .cmp, .cpx, .cpy, .asl, .lsr, .rol, .ror, .clc, .sec, .plp, .rti] → t.p.c = s.p.c) ∧
    (i.handler ∉ [.lda, .ldx, .ldy, .tax, .tay, .txa, .tya, .tsx, .pla, .asl, .lsr, .rol, .ror, .adc, .sbc, .and, .ora,
      .eor, .cmp, .cpx, .cpy, .inc, .dec, .inx, .iny, .dex, .dey, .bit, .plp, .rti] →
      t.p.z = s.p.z ∧ t.p.n = s.p.n) ∧
    (i.handler ∉ [.sei, .cli, .plp, .rti, .brk] → t.p.i = s.p.i) ∧
    (i.handler ∉ [.sed, .cld, .plp, .rti] → t.p.d = s.p.d) ∧
    (i.handler ∉ [.plp, .rti] → t.p.b = s.p.b) ∧
    (i.handler ∉ [.adc, .sbc, .bit, .clv, .plp, .rti] → t.p.v = s.p.v)

/-- Each register and each piece of working state is written only by the instructions R21 to R23 and R36 to R40 name. -/
def Obligations.OnlyTheNamedInstructionsWriteEachRegister : Prop :=
  ∀ (i : Instr) (s : State), ∃ t, exec i s = .next t ∧
    (i.handler ∉ [.lda, .pla, .txa, .tya, .adc, .sbc, .and, .ora, .eor] →
      ¬ (i.handler ∈ [.asl, .lsr, .rol, .ror] ∧ i.operand.mode = .imp) → t.a = s.a) ∧
    (i.handler ∉ [.ldx, .tax, .tsx, .inx, .dex] → t.x = s.x) ∧
    (i.handler ∉ [.ldy, .tay, .iny, .dey] → t.y = s.y) ∧
    (i.handler ∉ [.txs, .pha, .php, .pla, .plp, .jsr, .rts, .rti, .brk] → t.sp = s.sp) ∧
    t.opcode = s.opcode ∧
    (i.operand.mode ≠ .rel → t.addrRel = s.addrRel) ∧
    (i.operand.mode = .imp → t.addrAbs = s.addrAbs) ∧
    (i.operand.mode = .rel → branchTaken i.handler s.p ≠ some true → t.addrAbs = s.addrAbs) ∧
    (i.operand.mode ≠ .imp → i.handler ∉ operandReaders → t.fetched = s.fetched) ∧
    (i.handler ∉ [.asl, .lsr, .rol, .ror, .adc, .sbc, .bit, .cmp, .cpx, .cpy, .inc, .dec] → t.temp = s.temp) ∧
    (i.handler ∉ [.jmp, .jsr, .rts, .rti, .brk, .bcc, .bcs, .beq, .bmi, .bne, .bpl, .bvc, .bvs] → t.pc = pcPast i s)

/-- An instruction placed where the step fetches runs in the very next step (the model's own means, log entry 18): for
every instruction, in every state with a canonical memory. -/
def Obligations.PlacedInstructionRunsNext : Prop :=
  ∀ (i : Instr) (s : State), s.mem.wf = true →
    let bytes := encode i
    let w := (bytes.getD 0 0#8).toNat + 256 * (bytes.getD 1 0#8).toNat + 65536 * (bytes.getD 2 0#8).toNat
    let u := s.withFetchWord (8 * bytes.length) w
    decodeTableWord (8 * bytes.length) w = some i ∧
    ∃ t, exec i { u with opcode := i.opcode, pc := u.pc + 1#16 } = .next t ∧
      step u = .next { t with cycles := t.cycles - 1#8 }
end

