-- ==== Sys2Proof/Laws/Memory.lean ====
section
/-! SUPPORT. The laws of the memory list: a read after a write, and the canonical form. -/

namespace Sys2Proof.Machine

theorem memRead_below {m : Memory} {lo a : Nat} (h : memWfFrom lo m = true) (ha : a < lo) :
    memRead m a = unlistedByte := by
  induction m generalizing lo with
  | nil => rfl
  | cons e m ih =>
    obtain ⟨k, b⟩ := e
    simp only [memWfFrom, Bool.and_eq_true, decide_eq_true_eq] at h
    have hk : k ≠ a := by omega
    simp only [memRead, if_neg hk]
    exact ih h.2 (by omega)

theorem memWfFrom_mono {m : Memory} {lo lo' : Nat} (h : memWfFrom lo m = true) (hl : lo' ≤ lo) :
    memWfFrom lo' m = true := by
  cases m with
  | nil => rfl
  | cons e m =>
    simp only [memWfFrom, Bool.and_eq_true, decide_eq_true_eq] at h ⊢
    exact ⟨⟨⟨by omega, h.1.1.2⟩, h.1.2⟩, h.2⟩

theorem memRead_memCons (a a' : Nat) (v : Byte) (m : Memory) :
    memRead (memCons a v m) a' = if v = unlistedByte then memRead m a' else if a = a' then v else memRead m a' := by
  unfold memCons
  split <;> simp [memRead]

/-- Reading another address after a write gives what it gave before. -/
theorem memRead_memWrite_other {m : Memory} {a a' : Nat} {v : Byte} (h : a' ≠ a) :
    memRead (memWrite m a v) a' = memRead m a' := by
  have ha : a ≠ a' := fun e => h e.symm
  induction m with
  | nil => simp [memWrite, memRead_memCons, ha, memRead]
  | cons e m ih =>
    obtain ⟨k, b⟩ := e
    simp only [memWrite]
    split
    · simp [memRead_memCons, ha]
    · split
      · next h1 h2 => subst h2; simp [memRead_memCons, ha, memRead]
      · simp [memRead, ih]

theorem memRead_memWrite_from {m : Memory} {lo a : Nat} {v : Byte} (h : memWfFrom lo m = true) :
    memRead (memWrite m a v) a = v := by
  induction m generalizing lo with
  | nil => by_cases hv : v = unlistedByte <;> simp [memWrite, memCons, memRead, hv]
  | cons e m ih =>
    obtain ⟨k, b⟩ := e
    have h0 := h
    simp only [memWfFrom, Bool.and_eq_true, decide_eq_true_eq] at h
    simp only [memWrite]
    split
    · next hlt =>
      rw [memRead_memCons]
      split
      · next hv =>
        have hk : k ≠ a := by omega
        simp only [memRead, if_neg hk]
        rw [memRead_below h.2 (by omega), hv]
      · simp
    · split
      · next h2 =>
        rw [memRead_memCons]
        split
        · next hv => rw [memRead_below h.2 (by omega), hv]
        · simp
      · next h1 h2 =>
        have hk : k ≠ a := fun e => h2 e.symm
        simp only [memRead, if_neg hk]
        exact ih h.2

/-- Reading an address after a write to it gives the byte written. -/
theorem memRead_memWrite_same {m : Memory} {a : Nat} {v : Byte} (h : m.wf = true) :
    memRead (memWrite m a v) a = v := memRead_memWrite_from h

theorem memWfFrom_memCons {m : Memory} {lo a : Nat} {v : Byte} (h : memWfFrom (a + 1) m = true) (hl : lo ≤ a)
    (ha : a < 0x10000) : memWfFrom lo (memCons a v m) = true := by
  unfold memCons
  split
  · exact memWfFrom_mono h (by omega)
  · next hv => simp [memWfFrom, hl, ha, hv, h]

theorem memWfFrom_memWrite {m : Memory} {lo a : Nat} {v : Byte} (h : memWfFrom lo m = true) (hl : lo ≤ a)
    (ha : a < 0x10000) : memWfFrom lo (memWrite m a v) = true := by
  induction m generalizing lo with
  | nil => exact memWfFrom_memCons rfl hl ha
  | cons e m ih =>
    obtain ⟨k, b⟩ := e
    have h0 := h
    simp only [memWfFrom, Bool.and_eq_true, decide_eq_true_eq] at h
    simp only [memWrite]
    split
    · next hlt =>
      refine memWfFrom_memCons ?_ hl ha
      simp only [memWfFrom, Bool.and_eq_true, decide_eq_true_eq]
      exact ⟨⟨⟨by omega, h.1.1.2⟩, h.1.2⟩, h.2⟩
    · split
      · next h2 => exact memWfFrom_memCons (h2 ▸ h.2) hl ha
      · next h1 h2 =>
        simp only [memWfFrom, Bool.and_eq_true, decide_eq_true_eq]
        exact ⟨h.1, ih h.2 (by omega)⟩

/-- A write keeps the canonical form. -/
theorem memWf_memWrite {m : Memory} {a : Nat} {v : Byte} (h : m.wf = true) (ha : a < 0x10000) :
    Memory.wf (memWrite m a v) = true := memWfFrom_memWrite h (Nat.zero_le a) ha

/-- Two canonical memories that read the same at every address are the same list. -/
theorem memWfFrom_ext {m m' : Memory} {lo : Nat} (h : memWfFrom lo m = true) (h' : memWfFrom lo m' = true)
    (e : ∀ a, memRead m a = memRead m' a) : m = m' := by
  induction m generalizing lo m' with
  | nil =>
    cases m' with
    | nil => rfl
    | cons e' m' =>
      obtain ⟨k, b⟩ := e'
      simp only [memWfFrom, Bool.and_eq_true, decide_eq_true_eq, bne_iff_ne] at h'
      have := e k
      simp [memRead] at this
      exact absurd this.symm h'.1.2
  | cons c m ih =>
    obtain ⟨k, b⟩ := c
    have h0 := h
    simp only [memWfFrom, Bool.and_eq_true, decide_eq_true_eq, bne_iff_ne] at h
    cases m' with
    | nil =>
      have := e k
      simp [memRead] at this
      exact absurd this h.1.2
    | cons c' m' =>
      obtain ⟨k', b'⟩ := c'
      have h0' := h'
      simp only [memWfFrom, Bool.and_eq_true, decide_eq_true_eq, bne_iff_ne] at h'
      have hk : k = k' := by
        rcases Nat.lt_trichotomy k k' with hlt | heq | hgt
        · have := e k
          rw [memRead_below (m := (k', b') :: m') (lo := k') (by
            simp only [memWfFrom, Bool.and_eq_true, decide_eq_true_eq, bne_iff_ne]
            exact ⟨⟨⟨Nat.le_refl _, h'.1.1.2⟩, h'.1.2⟩, h'.2⟩) hlt] at this
          simp [memRead] at this
          exact absurd this h.1.2
        · exact heq
        · have := e k'
          rw [memRead_below (m := (k, b) :: m) (lo := k) (by
            simp only [memWfFrom, Bool.and_eq_true, decide_eq_true_eq, bne_iff_ne]
            exact ⟨⟨⟨Nat.le_refl _, h.1.1.2⟩, h.1.2⟩, h.2⟩) hgt] at this
          simp [memRead] at this
          exact absurd this.symm h'.1.2
      subst hk
      have hb : b = b' := by simpa [memRead] using e k
      subst hb
      have : m = m' := ih h.2 h'.2 (fun a => by
        by_cases hka : k = a
        · rw [memRead_below h.2 (by omega), memRead_below h'.2 (by omega)]
        · simpa [memRead, hka] using e a)
      rw [this]

/-- Equal memories are equal data. -/
theorem memory_ext {m m' : Memory} (h : m.wf = true) (h' : m'.wf = true) (e : ∀ a, memRead m a = memRead m' a) :
    m = m' := memWfFrom_ext h h' e

end Sys2Proof.Machine
end

