-- ==== Sys2Proof/Laws/State.lean ====
section
/-! SUPPORT. One lemma per field per register write, true by rfl. -/

namespace Sys2Proof.Machine

section
variable (v : Byte) (s : State)
@[simp] theorem State.setA_a : (s.setA v).a = v := rfl
@[simp] theorem State.setA_x : (s.setA v).x = s.x := rfl
@[simp] theorem State.setA_y : (s.setA v).y = s.y := rfl
@[simp] theorem State.setA_sp : (s.setA v).sp = s.sp := rfl
@[simp] theorem State.setA_pc : (s.setA v).pc = s.pc := rfl
@[simp] theorem State.setA_p : (s.setA v).p = s.p := rfl
@[simp] theorem State.setA_opcode : (s.setA v).opcode = s.opcode := rfl
@[simp] theorem State.setA_fetched : (s.setA v).fetched = s.fetched := rfl
@[simp] theorem State.setA_addrAbs : (s.setA v).addrAbs = s.addrAbs := rfl
@[simp] theorem State.setA_addrRel : (s.setA v).addrRel = s.addrRel := rfl
@[simp] theorem State.setA_temp : (s.setA v).temp = s.temp := rfl
@[simp] theorem State.setA_cycles : (s.setA v).cycles = s.cycles := rfl
@[simp] theorem State.setA_nmiPending : (s.setA v).nmiPending = s.nmiPending := rfl
@[simp] theorem State.setA_mem : (s.setA v).mem = s.mem := rfl
@[simp] theorem State.setA_busMap : (s.setA v).busMap = s.busMap := rfl
@[simp] theorem State.setA_busLog : (s.setA v).busLog = s.busLog := rfl
@[simp] theorem State.setA_hostCalls : (s.setA v).hostCalls = s.hostCalls := rfl
end

section
variable (v : Byte) (s : State)
@[simp] theorem State.setX_a : (s.setX v).a = s.a := rfl
@[simp] theorem State.setX_x : (s.setX v).x = v := rfl
@[simp] theorem State.setX_y : (s.setX v).y = s.y := rfl
@[simp] theorem State.setX_sp : (s.setX v).sp = s.sp := rfl
@[simp] theorem State.setX_pc : (s.setX v).pc = s.pc := rfl
@[simp] theorem State.setX_p : (s.setX v).p = s.p := rfl
@[simp] theorem State.setX_opcode : (s.setX v).opcode = s.opcode := rfl
@[simp] theorem State.setX_fetched : (s.setX v).fetched = s.fetched := rfl
@[simp] theorem State.setX_addrAbs : (s.setX v).addrAbs = s.addrAbs := rfl
@[simp] theorem State.setX_addrRel : (s.setX v).addrRel = s.addrRel := rfl
@[simp] theorem State.setX_temp : (s.setX v).temp = s.temp := rfl
@[simp] theorem State.setX_cycles : (s.setX v).cycles = s.cycles := rfl
@[simp] theorem State.setX_nmiPending : (s.setX v).nmiPending = s.nmiPending := rfl
@[simp] theorem State.setX_mem : (s.setX v).mem = s.mem := rfl
@[simp] theorem State.setX_busMap : (s.setX v).busMap = s.busMap := rfl
@[simp] theorem State.setX_busLog : (s.setX v).busLog = s.busLog := rfl
@[simp] theorem State.setX_hostCalls : (s.setX v).hostCalls = s.hostCalls := rfl
end

section
variable (v : Byte) (s : State)
@[simp] theorem State.setY_a : (s.setY v).a = s.a := rfl
@[simp] theorem State.setY_x : (s.setY v).x = s.x := rfl
@[simp] theorem State.setY_y : (s.setY v).y = v := rfl
@[simp] theorem State.setY_sp : (s.setY v).sp = s.sp := rfl
@[simp] theorem State.setY_pc : (s.setY v).pc = s.pc := rfl
@[simp] theorem State.setY_p : (s.setY v).p = s.p := rfl
@[simp] theorem State.setY_opcode : (s.setY v).opcode = s.opcode := rfl
@[simp] theorem State.setY_fetched : (s.setY v).fetched = s.fetched := rfl
@[simp] theorem State.setY_addrAbs : (s.setY v).addrAbs = s.addrAbs := rfl
@[simp] theorem State.setY_addrRel : (s.setY v).addrRel = s.addrRel := rfl
@[simp] theorem State.setY_temp : (s.setY v).temp = s.temp := rfl
@[simp] theorem State.setY_cycles : (s.setY v).cycles = s.cycles := rfl
@[simp] theorem State.setY_nmiPending : (s.setY v).nmiPending = s.nmiPending := rfl
@[simp] theorem State.setY_mem : (s.setY v).mem = s.mem := rfl
@[simp] theorem State.setY_busMap : (s.setY v).busMap = s.busMap := rfl
@[simp] theorem State.setY_busLog : (s.setY v).busLog = s.busLog := rfl
@[simp] theorem State.setY_hostCalls : (s.setY v).hostCalls = s.hostCalls := rfl
end

section
variable (v : Byte) (s : State)
@[simp] theorem State.setSp_a : (s.setSp v).a = s.a := rfl
@[simp] theorem State.setSp_x : (s.setSp v).x = s.x := rfl
@[simp] theorem State.setSp_y : (s.setSp v).y = s.y := rfl
@[simp] theorem State.setSp_sp : (s.setSp v).sp = v := rfl
@[simp] theorem State.setSp_pc : (s.setSp v).pc = s.pc := rfl
@[simp] theorem State.setSp_p : (s.setSp v).p = s.p := rfl
@[simp] theorem State.setSp_opcode : (s.setSp v).opcode = s.opcode := rfl
@[simp] theorem State.setSp_fetched : (s.setSp v).fetched = s.fetched := rfl
@[simp] theorem State.setSp_addrAbs : (s.setSp v).addrAbs = s.addrAbs := rfl
@[simp] theorem State.setSp_addrRel : (s.setSp v).addrRel = s.addrRel := rfl
@[simp] theorem State.setSp_temp : (s.setSp v).temp = s.temp := rfl
@[simp] theorem State.setSp_cycles : (s.setSp v).cycles = s.cycles := rfl
@[simp] theorem State.setSp_nmiPending : (s.setSp v).nmiPending = s.nmiPending := rfl
@[simp] theorem State.setSp_mem : (s.setSp v).mem = s.mem := rfl
@[simp] theorem State.setSp_busMap : (s.setSp v).busMap = s.busMap := rfl
@[simp] theorem State.setSp_busLog : (s.setSp v).busLog = s.busLog := rfl
@[simp] theorem State.setSp_hostCalls : (s.setSp v).hostCalls = s.hostCalls := rfl
end

section
variable (v : Word) (s : State)
@[simp] theorem State.setPc_a : (s.setPc v).a = s.a := rfl
@[simp] theorem State.setPc_x : (s.setPc v).x = s.x := rfl
@[simp] theorem State.setPc_y : (s.setPc v).y = s.y := rfl
@[simp] theorem State.setPc_sp : (s.setPc v).sp = s.sp := rfl
@[simp] theorem State.setPc_pc : (s.setPc v).pc = v := rfl
@[simp] theorem State.setPc_p : (s.setPc v).p = s.p := rfl
@[simp] theorem State.setPc_opcode : (s.setPc v).opcode = s.opcode := rfl
@[simp] theorem State.setPc_fetched : (s.setPc v).fetched = s.fetched := rfl
@[simp] theorem State.setPc_addrAbs : (s.setPc v).addrAbs = s.addrAbs := rfl
@[simp] theorem State.setPc_addrRel : (s.setPc v).addrRel = s.addrRel := rfl
@[simp] theorem State.setPc_temp : (s.setPc v).temp = s.temp := rfl
@[simp] theorem State.setPc_cycles : (s.setPc v).cycles = s.cycles := rfl
@[simp] theorem State.setPc_nmiPending : (s.setPc v).nmiPending = s.nmiPending := rfl
@[simp] theorem State.setPc_mem : (s.setPc v).mem = s.mem := rfl
@[simp] theorem State.setPc_busMap : (s.setPc v).busMap = s.busMap := rfl
@[simp] theorem State.setPc_busLog : (s.setPc v).busLog = s.busLog := rfl
@[simp] theorem State.setPc_hostCalls : (s.setPc v).hostCalls = s.hostCalls := rfl
end

section
variable (v : Status) (s : State)
@[simp] theorem State.setP_a : (s.setP v).a = s.a := rfl
@[simp] theorem State.setP_x : (s.setP v).x = s.x := rfl
@[simp] theorem State.setP_y : (s.setP v).y = s.y := rfl
@[simp] theorem State.setP_sp : (s.setP v).sp = s.sp := rfl
@[simp] theorem State.setP_pc : (s.setP v).pc = s.pc := rfl
@[simp] theorem State.setP_p : (s.setP v).p = v := rfl
@[simp] theorem State.setP_opcode : (s.setP v).opcode = s.opcode := rfl
@[simp] theorem State.setP_fetched : (s.setP v).fetched = s.fetched := rfl
@[simp] theorem State.setP_addrAbs : (s.setP v).addrAbs = s.addrAbs := rfl
@[simp] theorem State.setP_addrRel : (s.setP v).addrRel = s.addrRel := rfl
@[simp] theorem State.setP_temp : (s.setP v).temp = s.temp := rfl
@[simp] theorem State.setP_cycles : (s.setP v).cycles = s.cycles := rfl
@[simp] theorem State.setP_nmiPending : (s.setP v).nmiPending = s.nmiPending := rfl
@[simp] theorem State.setP_mem : (s.setP v).mem = s.mem := rfl
@[simp] theorem State.setP_busMap : (s.setP v).busMap = s.busMap := rfl
@[simp] theorem State.setP_busLog : (s.setP v).busLog = s.busLog := rfl
@[simp] theorem State.setP_hostCalls : (s.setP v).hostCalls = s.hostCalls := rfl
end

section
variable (v : Byte) (s : State)
@[simp] theorem State.setOpcode_a : (s.setOpcode v).a = s.a := rfl
@[simp] theorem State.setOpcode_x : (s.setOpcode v).x = s.x := rfl
@[simp] theorem State.setOpcode_y : (s.setOpcode v).y = s.y := rfl
@[simp] theorem State.setOpcode_sp : (s.setOpcode v).sp = s.sp := rfl
@[simp] theorem State.setOpcode_pc : (s.setOpcode v).pc = s.pc := rfl
@[simp] theorem State.setOpcode_p : (s.setOpcode v).p = s.p := rfl
@[simp] theorem State.setOpcode_opcode : (s.setOpcode v).opcode = v := rfl
@[simp] theorem State.setOpcode_fetched : (s.setOpcode v).fetched = s.fetched := rfl
@[simp] theorem State.setOpcode_addrAbs : (s.setOpcode v).addrAbs = s.addrAbs := rfl
@[simp] theorem State.setOpcode_addrRel : (s.setOpcode v).addrRel = s.addrRel := rfl
@[simp] theorem State.setOpcode_temp : (s.setOpcode v).temp = s.temp := rfl
@[simp] theorem State.setOpcode_cycles : (s.setOpcode v).cycles = s.cycles := rfl
@[simp] theorem State.setOpcode_nmiPending : (s.setOpcode v).nmiPending = s.nmiPending := rfl
@[simp] theorem State.setOpcode_mem : (s.setOpcode v).mem = s.mem := rfl
@[simp] theorem State.setOpcode_busMap : (s.setOpcode v).busMap = s.busMap := rfl
@[simp] theorem State.setOpcode_busLog : (s.setOpcode v).busLog = s.busLog := rfl
@[simp] theorem State.setOpcode_hostCalls : (s.setOpcode v).hostCalls = s.hostCalls := rfl
end

section
variable (v : Byte) (s : State)
@[simp] theorem State.setFetched_a : (s.setFetched v).a = s.a := rfl
@[simp] theorem State.setFetched_x : (s.setFetched v).x = s.x := rfl
@[simp] theorem State.setFetched_y : (s.setFetched v).y = s.y := rfl
@[simp] theorem State.setFetched_sp : (s.setFetched v).sp = s.sp := rfl
@[simp] theorem State.setFetched_pc : (s.setFetched v).pc = s.pc := rfl
@[simp] theorem State.setFetched_p : (s.setFetched v).p = s.p := rfl
@[simp] theorem State.setFetched_opcode : (s.setFetched v).opcode = s.opcode := rfl
@[simp] theorem State.setFetched_fetched : (s.setFetched v).fetched = v := rfl
@[simp] theorem State.setFetched_addrAbs : (s.setFetched v).addrAbs = s.addrAbs := rfl
@[simp] theorem State.setFetched_addrRel : (s.setFetched v).addrRel = s.addrRel := rfl
@[simp] theorem State.setFetched_temp : (s.setFetched v).temp = s.temp := rfl
@[simp] theorem State.setFetched_cycles : (s.setFetched v).cycles = s.cycles := rfl
@[simp] theorem State.setFetched_nmiPending : (s.setFetched v).nmiPending = s.nmiPending := rfl
@[simp] theorem State.setFetched_mem : (s.setFetched v).mem = s.mem := rfl
@[simp] theorem State.setFetched_busMap : (s.setFetched v).busMap = s.busMap := rfl
@[simp] theorem State.setFetched_busLog : (s.setFetched v).busLog = s.busLog := rfl
@[simp] theorem State.setFetched_hostCalls : (s.setFetched v).hostCalls = s.hostCalls := rfl
end

section
variable (v : Word) (s : State)
@[simp] theorem State.setAddrAbs_a : (s.setAddrAbs v).a = s.a := rfl
@[simp] theorem State.setAddrAbs_x : (s.setAddrAbs v).x = s.x := rfl
@[simp] theorem State.setAddrAbs_y : (s.setAddrAbs v).y = s.y := rfl
@[simp] theorem State.setAddrAbs_sp : (s.setAddrAbs v).sp = s.sp := rfl
@[simp] theorem State.setAddrAbs_pc : (s.setAddrAbs v).pc = s.pc := rfl
@[simp] theorem State.setAddrAbs_p : (s.setAddrAbs v).p = s.p := rfl
@[simp] theorem State.setAddrAbs_opcode : (s.setAddrAbs v).opcode = s.opcode := rfl
@[simp] theorem State.setAddrAbs_fetched : (s.setAddrAbs v).fetched = s.fetched := rfl
@[simp] theorem State.setAddrAbs_addrAbs : (s.setAddrAbs v).addrAbs = v := rfl
@[simp] theorem State.setAddrAbs_addrRel : (s.setAddrAbs v).addrRel = s.addrRel := rfl
@[simp] theorem State.setAddrAbs_temp : (s.setAddrAbs v).temp = s.temp := rfl
@[simp] theorem State.setAddrAbs_cycles : (s.setAddrAbs v).cycles = s.cycles := rfl
@[simp] theorem State.setAddrAbs_nmiPending : (s.setAddrAbs v).nmiPending = s.nmiPending := rfl
@[simp] theorem State.setAddrAbs_mem : (s.setAddrAbs v).mem = s.mem := rfl
@[simp] theorem State.setAddrAbs_busMap : (s.setAddrAbs v).busMap = s.busMap := rfl
@[simp] theorem State.setAddrAbs_busLog : (s.setAddrAbs v).busLog = s.busLog := rfl
@[simp] theorem State.setAddrAbs_hostCalls : (s.setAddrAbs v).hostCalls = s.hostCalls := rfl
end

section
variable (v : Word) (s : State)
@[simp] theorem State.setAddrRel_a : (s.setAddrRel v).a = s.a := rfl
@[simp] theorem State.setAddrRel_x : (s.setAddrRel v).x = s.x := rfl
@[simp] theorem State.setAddrRel_y : (s.setAddrRel v).y = s.y := rfl
@[simp] theorem State.setAddrRel_sp : (s.setAddrRel v).sp = s.sp := rfl
@[simp] theorem State.setAddrRel_pc : (s.setAddrRel v).pc = s.pc := rfl
@[simp] theorem State.setAddrRel_p : (s.setAddrRel v).p = s.p := rfl
@[simp] theorem State.setAddrRel_opcode : (s.setAddrRel v).opcode = s.opcode := rfl
@[simp] theorem State.setAddrRel_fetched : (s.setAddrRel v).fetched = s.fetched := rfl
@[simp] theorem State.setAddrRel_addrAbs : (s.setAddrRel v).addrAbs = s.addrAbs := rfl
@[simp] theorem State.setAddrRel_addrRel : (s.setAddrRel v).addrRel = v := rfl
@[simp] theorem State.setAddrRel_temp : (s.setAddrRel v).temp = s.temp := rfl
@[simp] theorem State.setAddrRel_cycles : (s.setAddrRel v).cycles = s.cycles := rfl
@[simp] theorem State.setAddrRel_nmiPending : (s.setAddrRel v).nmiPending = s.nmiPending := rfl
@[simp] theorem State.setAddrRel_mem : (s.setAddrRel v).mem = s.mem := rfl
@[simp] theorem State.setAddrRel_busMap : (s.setAddrRel v).busMap = s.busMap := rfl
@[simp] theorem State.setAddrRel_busLog : (s.setAddrRel v).busLog = s.busLog := rfl
@[simp] theorem State.setAddrRel_hostCalls : (s.setAddrRel v).hostCalls = s.hostCalls := rfl
end

section
variable (v : Word) (s : State)
@[simp] theorem State.setTemp_a : (s.setTemp v).a = s.a := rfl
@[simp] theorem State.setTemp_x : (s.setTemp v).x = s.x := rfl
@[simp] theorem State.setTemp_y : (s.setTemp v).y = s.y := rfl
@[simp] theorem State.setTemp_sp : (s.setTemp v).sp = s.sp := rfl
@[simp] theorem State.setTemp_pc : (s.setTemp v).pc = s.pc := rfl
@[simp] theorem State.setTemp_p : (s.setTemp v).p = s.p := rfl
@[simp] theorem State.setTemp_opcode : (s.setTemp v).opcode = s.opcode := rfl
@[simp] theorem State.setTemp_fetched : (s.setTemp v).fetched = s.fetched := rfl
@[simp] theorem State.setTemp_addrAbs : (s.setTemp v).addrAbs = s.addrAbs := rfl
@[simp] theorem State.setTemp_addrRel : (s.setTemp v).addrRel = s.addrRel := rfl
@[simp] theorem State.setTemp_temp : (s.setTemp v).temp = v := rfl
@[simp] theorem State.setTemp_cycles : (s.setTemp v).cycles = s.cycles := rfl
@[simp] theorem State.setTemp_nmiPending : (s.setTemp v).nmiPending = s.nmiPending := rfl
@[simp] theorem State.setTemp_mem : (s.setTemp v).mem = s.mem := rfl
@[simp] theorem State.setTemp_busMap : (s.setTemp v).busMap = s.busMap := rfl
@[simp] theorem State.setTemp_busLog : (s.setTemp v).busLog = s.busLog := rfl
@[simp] theorem State.setTemp_hostCalls : (s.setTemp v).hostCalls = s.hostCalls := rfl
end

section
variable (v : Byte) (s : State)
@[simp] theorem State.setCycles_a : (s.setCycles v).a = s.a := rfl
@[simp] theorem State.setCycles_x : (s.setCycles v).x = s.x := rfl
@[simp] theorem State.setCycles_y : (s.setCycles v).y = s.y := rfl
@[simp] theorem State.setCycles_sp : (s.setCycles v).sp = s.sp := rfl
@[simp] theorem State.setCycles_pc : (s.setCycles v).pc = s.pc := rfl
@[simp] theorem State.setCycles_p : (s.setCycles v).p = s.p := rfl
@[simp] theorem State.setCycles_opcode : (s.setCycles v).opcode = s.opcode := rfl
@[simp] theorem State.setCycles_fetched : (s.setCycles v).fetched = s.fetched := rfl
@[simp] theorem State.setCycles_addrAbs : (s.setCycles v).addrAbs = s.addrAbs := rfl
@[simp] theorem State.setCycles_addrRel : (s.setCycles v).addrRel = s.addrRel := rfl
@[simp] theorem State.setCycles_temp : (s.setCycles v).temp = s.temp := rfl
@[simp] theorem State.setCycles_cycles : (s.setCycles v).cycles = v := rfl
@[simp] theorem State.setCycles_nmiPending : (s.setCycles v).nmiPending = s.nmiPending := rfl
@[simp] theorem State.setCycles_mem : (s.setCycles v).mem = s.mem := rfl
@[simp] theorem State.setCycles_busMap : (s.setCycles v).busMap = s.busMap := rfl
@[simp] theorem State.setCycles_busLog : (s.setCycles v).busLog = s.busLog := rfl
@[simp] theorem State.setCycles_hostCalls : (s.setCycles v).hostCalls = s.hostCalls := rfl
end

section
variable (v : Bool) (s : State)
@[simp] theorem State.setNmiPending_a : (s.setNmiPending v).a = s.a := rfl
@[simp] theorem State.setNmiPending_x : (s.setNmiPending v).x = s.x := rfl
@[simp] theorem State.setNmiPending_y : (s.setNmiPending v).y = s.y := rfl
@[simp] theorem State.setNmiPending_sp : (s.setNmiPending v).sp = s.sp := rfl
@[simp] theorem State.setNmiPending_pc : (s.setNmiPending v).pc = s.pc := rfl
@[simp] theorem State.setNmiPending_p : (s.setNmiPending v).p = s.p := rfl
@[simp] theorem State.setNmiPending_opcode : (s.setNmiPending v).opcode = s.opcode := rfl
@[simp] theorem State.setNmiPending_fetched : (s.setNmiPending v).fetched = s.fetched := rfl
@[simp] theorem State.setNmiPending_addrAbs : (s.setNmiPending v).addrAbs = s.addrAbs := rfl
@[simp] theorem State.setNmiPending_addrRel : (s.setNmiPending v).addrRel = s.addrRel := rfl
@[simp] theorem State.setNmiPending_temp : (s.setNmiPending v).temp = s.temp := rfl
@[simp] theorem State.setNmiPending_cycles : (s.setNmiPending v).cycles = s.cycles := rfl
@[simp] theorem State.setNmiPending_nmiPending : (s.setNmiPending v).nmiPending = v := rfl
@[simp] theorem State.setNmiPending_mem : (s.setNmiPending v).mem = s.mem := rfl
@[simp] theorem State.setNmiPending_busMap : (s.setNmiPending v).busMap = s.busMap := rfl
@[simp] theorem State.setNmiPending_busLog : (s.setNmiPending v).busLog = s.busLog := rfl
@[simp] theorem State.setNmiPending_hostCalls : (s.setNmiPending v).hostCalls = s.hostCalls := rfl
end

section
variable (v : Memory) (s : State)
@[simp] theorem State.setMem_a : (s.setMem v).a = s.a := rfl
@[simp] theorem State.setMem_x : (s.setMem v).x = s.x := rfl
@[simp] theorem State.setMem_y : (s.setMem v).y = s.y := rfl
@[simp] theorem State.setMem_sp : (s.setMem v).sp = s.sp := rfl
@[simp] theorem State.setMem_pc : (s.setMem v).pc = s.pc := rfl
@[simp] theorem State.setMem_p : (s.setMem v).p = s.p := rfl
@[simp] theorem State.setMem_opcode : (s.setMem v).opcode = s.opcode := rfl
@[simp] theorem State.setMem_fetched : (s.setMem v).fetched = s.fetched := rfl
@[simp] theorem State.setMem_addrAbs : (s.setMem v).addrAbs = s.addrAbs := rfl
@[simp] theorem State.setMem_addrRel : (s.setMem v).addrRel = s.addrRel := rfl
@[simp] theorem State.setMem_temp : (s.setMem v).temp = s.temp := rfl
@[simp] theorem State.setMem_cycles : (s.setMem v).cycles = s.cycles := rfl
@[simp] theorem State.setMem_nmiPending : (s.setMem v).nmiPending = s.nmiPending := rfl
@[simp] theorem State.setMem_mem : (s.setMem v).mem = v := rfl
@[simp] theorem State.setMem_busMap : (s.setMem v).busMap = s.busMap := rfl
@[simp] theorem State.setMem_busLog : (s.setMem v).busLog = s.busLog := rfl
@[simp] theorem State.setMem_hostCalls : (s.setMem v).hostCalls = s.hostCalls := rfl
end

section
variable (v : List Window) (s : State)
@[simp] theorem State.setBusMap_a : (s.setBusMap v).a = s.a := rfl
@[simp] theorem State.setBusMap_x : (s.setBusMap v).x = s.x := rfl
@[simp] theorem State.setBusMap_y : (s.setBusMap v).y = s.y := rfl
@[simp] theorem State.setBusMap_sp : (s.setBusMap v).sp = s.sp := rfl
@[simp] theorem State.setBusMap_pc : (s.setBusMap v).pc = s.pc := rfl
@[simp] theorem State.setBusMap_p : (s.setBusMap v).p = s.p := rfl
@[simp] theorem State.setBusMap_opcode : (s.setBusMap v).opcode = s.opcode := rfl
@[simp] theorem State.setBusMap_fetched : (s.setBusMap v).fetched = s.fetched := rfl
@[simp] theorem State.setBusMap_addrAbs : (s.setBusMap v).addrAbs = s.addrAbs := rfl
@[simp] theorem State.setBusMap_addrRel : (s.setBusMap v).addrRel = s.addrRel := rfl
@[simp] theorem State.setBusMap_temp : (s.setBusMap v).temp = s.temp := rfl
@[simp] theorem State.setBusMap_cycles : (s.setBusMap v).cycles = s.cycles := rfl
@[simp] theorem State.setBusMap_nmiPending : (s.setBusMap v).nmiPending = s.nmiPending := rfl
@[simp] theorem State.setBusMap_mem : (s.setBusMap v).mem = s.mem := rfl
@[simp] theorem State.setBusMap_busMap : (s.setBusMap v).busMap = v := rfl
@[simp] theorem State.setBusMap_busLog : (s.setBusMap v).busLog = s.busLog := rfl
@[simp] theorem State.setBusMap_hostCalls : (s.setBusMap v).hostCalls = s.hostCalls := rfl
end

section
variable (v : BusAccess) (s : State)
@[simp] theorem State.logAccess_a : (s.logAccess v).a = s.a := rfl
@[simp] theorem State.logAccess_x : (s.logAccess v).x = s.x := rfl
@[simp] theorem State.logAccess_y : (s.logAccess v).y = s.y := rfl
@[simp] theorem State.logAccess_sp : (s.logAccess v).sp = s.sp := rfl
@[simp] theorem State.logAccess_pc : (s.logAccess v).pc = s.pc := rfl
@[simp] theorem State.logAccess_p : (s.logAccess v).p = s.p := rfl
@[simp] theorem State.logAccess_opcode : (s.logAccess v).opcode = s.opcode := rfl
@[simp] theorem State.logAccess_fetched : (s.logAccess v).fetched = s.fetched := rfl
@[simp] theorem State.logAccess_addrAbs : (s.logAccess v).addrAbs = s.addrAbs := rfl
@[simp] theorem State.logAccess_addrRel : (s.logAccess v).addrRel = s.addrRel := rfl
@[simp] theorem State.logAccess_temp : (s.logAccess v).temp = s.temp := rfl
@[simp] theorem State.logAccess_cycles : (s.logAccess v).cycles = s.cycles := rfl
@[simp] theorem State.logAccess_nmiPending : (s.logAccess v).nmiPending = s.nmiPending := rfl
@[simp] theorem State.logAccess_mem : (s.logAccess v).mem = s.mem := rfl
@[simp] theorem State.logAccess_busMap : (s.logAccess v).busMap = s.busMap := rfl
@[simp] theorem State.logAccess_busLog : (s.logAccess v).busLog = v :: s.busLog := rfl
@[simp] theorem State.logAccess_hostCalls : (s.logAccess v).hostCalls = s.hostCalls := rfl
end

section
variable (v : List HostCall) (s : State)
@[simp] theorem State.setHostCalls_a : (s.setHostCalls v).a = s.a := rfl
@[simp] theorem State.setHostCalls_x : (s.setHostCalls v).x = s.x := rfl
@[simp] theorem State.setHostCalls_y : (s.setHostCalls v).y = s.y := rfl
@[simp] theorem State.setHostCalls_sp : (s.setHostCalls v).sp = s.sp := rfl
@[simp] theorem State.setHostCalls_pc : (s.setHostCalls v).pc = s.pc := rfl
@[simp] theorem State.setHostCalls_p : (s.setHostCalls v).p = s.p := rfl
@[simp] theorem State.setHostCalls_opcode : (s.setHostCalls v).opcode = s.opcode := rfl
@[simp] theorem State.setHostCalls_fetched : (s.setHostCalls v).fetched = s.fetched := rfl
@[simp] theorem State.setHostCalls_addrAbs : (s.setHostCalls v).addrAbs = s.addrAbs := rfl
@[simp] theorem State.setHostCalls_addrRel : (s.setHostCalls v).addrRel = s.addrRel := rfl
@[simp] theorem State.setHostCalls_temp : (s.setHostCalls v).temp = s.temp := rfl
@[simp] theorem State.setHostCalls_cycles : (s.setHostCalls v).cycles = s.cycles := rfl
@[simp] theorem State.setHostCalls_nmiPending : (s.setHostCalls v).nmiPending = s.nmiPending := rfl
@[simp] theorem State.setHostCalls_mem : (s.setHostCalls v).mem = s.mem := rfl
@[simp] theorem State.setHostCalls_busMap : (s.setHostCalls v).busMap = s.busMap := rfl
@[simp] theorem State.setHostCalls_busLog : (s.setHostCalls v).busLog = s.busLog := rfl
@[simp] theorem State.setHostCalls_hostCalls : (s.setHostCalls v).hostCalls = v := rfl
end

end Sys2Proof.Machine
end

