-- ==== Sys2Proof/Laws/Bus.lean ====
section
/-! SUPPORT. What each operation over the bus and the stack can do: its frame field by field, its effect on plain RAM,
and that all it does to the bus is reads and writes. -/

namespace Sys2Proof.Machine

@[simp] theorem State.setA_target (v : Byte) (s : State) (a : Word) : (s.setA v).target a = s.target a := rfl
@[simp] theorem State.setX_target (v : Byte) (s : State) (a : Word) : (s.setX v).target a = s.target a := rfl
@[simp] theorem State.setY_target (v : Byte) (s : State) (a : Word) : (s.setY v).target a = s.target a := rfl
@[simp] theorem State.setSp_target (v : Byte) (s : State) (a : Word) : (s.setSp v).target a = s.target a := rfl
@[simp] theorem State.setPc_target (v : Word) (s : State) (a : Word) : (s.setPc v).target a = s.target a := rfl
@[simp] theorem State.setP_target (v : Status) (s : State) (a : Word) : (s.setP v).target a = s.target a := rfl
@[simp] theorem State.setOpcode_target (v : Byte) (s : State) (a : Word) : (s.setOpcode v).target a = s.target a := rfl
@[simp] theorem State.setFetched_target (v : Byte) (s : State) (a : Word) : (s.setFetched v).target a = s.target a := rfl
@[simp] theorem State.setAddrAbs_target (v : Word) (s : State) (a : Word) : (s.setAddrAbs v).target a = s.target a := rfl
@[simp] theorem State.setAddrRel_target (v : Word) (s : State) (a : Word) : (s.setAddrRel v).target a = s.target a := rfl
@[simp] theorem State.setTemp_target (v : Word) (s : State) (a : Word) : (s.setTemp v).target a = s.target a := rfl
@[simp] theorem State.setCycles_target (v : Byte) (s : State) (a : Word) : (s.setCycles v).target a = s.target a := rfl
@[simp] theorem State.setNmiPending_target (v : Bool) (s : State) (a : Word) : (s.setNmiPending v).target a = s.target a := rfl
@[simp] theorem State.setMem_target (v : Memory) (s : State) (a : Word) : (s.setMem v).target a = s.target a := rfl
@[simp] theorem State.logAccess_target (v : BusAccess) (s : State) (a : Word) : (s.logAccess v).target a = s.target a := rfl
@[simp] theorem State.setHostCalls_target (v : List HostCall) (s : State) (a : Word) : (s.setHostCalls v).target a = s.target a := rfl

section busRead
@[simp] theorem busRead_a (a : Word) (s : State) : (busRead a s).2.a = s.a := by
  unfold busRead busReadOn; split <;> rfl
@[simp] theorem busRead_x (a : Word) (s : State) : (busRead a s).2.x = s.x := by
  unfold busRead busReadOn; split <;> rfl
@[simp] theorem busRead_y (a : Word) (s : State) : (busRead a s).2.y = s.y := by
  unfold busRead busReadOn; split <;> rfl
@[simp] theorem busRead_sp (a : Word) (s : State) : (busRead a s).2.sp = s.sp := by
  unfold busRead busReadOn; split <;> rfl
@[simp] theorem busRead_pc (a : Word) (s : State) : (busRead a s).2.pc = s.pc := by
  unfold busRead busReadOn; split <;> rfl
@[simp] theorem busRead_p (a : Word) (s : State) : (busRead a s).2.p = s.p := by
  unfold busRead busReadOn; split <;> rfl
@[simp] theorem busRead_opcode (a : Word) (s : State) : (busRead a s).2.opcode = s.opcode := by
  unfold busRead busReadOn; split <;> rfl
@[simp] theorem busRead_fetched (a : Word) (s : State) : (busRead a s).2.fetched = s.fetched := by
  unfold busRead busReadOn; split <;> rfl
@[simp] theorem busRead_addrAbs (a : Word) (s : State) : (busRead a s).2.addrAbs = s.addrAbs := by
  unfold busRead busReadOn; split <;> rfl
@[simp] theorem busRead_addrRel (a : Word) (s : State) : (busRead a s).2.addrRel = s.addrRel := by
  unfold busRead busReadOn; split <;> rfl
@[simp] theorem busRead_temp (a : Word) (s : State) : (busRead a s).2.temp = s.temp := by
  unfold busRead busReadOn; split <;> rfl
@[simp] theorem busRead_cycles (a : Word) (s : State) : (busRead a s).2.cycles = s.cycles := by
  unfold busRead busReadOn; split <;> rfl
@[simp] theorem busRead_nmiPending (a : Word) (s : State) : (busRead a s).2.nmiPending = s.nmiPending := by
  unfold busRead busReadOn; split <;> rfl
@[simp] theorem busRead_mem (a : Word) (s : State) : (busRead a s).2.mem = s.mem := by
  unfold busRead busReadOn; split <;> rfl
@[simp] theorem busRead_busMap (a : Word) (s : State) : (busRead a s).2.busMap = s.busMap := by
  unfold busRead busReadOn; split <;> rfl
@[simp] theorem busRead_hostCalls (a : Word) (s : State) : (busRead a s).2.hostCalls = s.hostCalls := by
  unfold busRead busReadOn; split <;> rfl
@[simp] theorem busRead_target (a : Word) (s : State) (a' : Word) : (busRead a s).2.target a' = s.target a' := by simp [State.target]
end busRead

section busWrite
@[simp] theorem busWrite_a (a : Word) (v : Byte) (s : State) : (busWrite a v s).a = s.a := by
  unfold busWrite; split <;> rfl
@[simp] theorem busWrite_x (a : Word) (v : Byte) (s : State) : (busWrite a v s).x = s.x := by
  unfold busWrite; split <;> rfl
@[simp] theorem busWrite_y (a : Word) (v : Byte) (s : State) : (busWrite a v s).y = s.y := by
  unfold busWrite; split <;> rfl
@[simp] theorem busWrite_sp (a : Word) (v : Byte) (s : State) : (busWrite a v s).sp = s.sp := by
  unfold busWrite; split <;> rfl
@[simp] theorem busWrite_pc (a : Word) (v : Byte) (s : State) : (busWrite a v s).pc = s.pc := by
  unfold busWrite; split <;> rfl
@[simp] theorem busWrite_p (a : Word) (v : Byte) (s : State) : (busWrite a v s).p = s.p := by
  unfold busWrite; split <;> rfl
@[simp] theorem busWrite_opcode (a : Word) (v : Byte) (s : State) : (busWrite a v s).opcode = s.opcode := by
  unfold busWrite; split <;> rfl
@[simp] theorem busWrite_fetched (a : Word) (v : Byte) (s : State) : (busWrite a v s).fetched = s.fetched := by
  unfold busWrite; split <;> rfl
@[simp] theorem busWrite_addrAbs (a : Word) (v : Byte) (s : State) : (busWrite a v s).addrAbs = s.addrAbs := by
  unfold busWrite; split <;> rfl
@[simp] theorem busWrite_addrRel (a : Word) (v : Byte) (s : State) : (busWrite a v s).addrRel = s.addrRel := by
  unfold busWrite; split <;> rfl
@[simp] theorem busWrite_temp (a : Word) (v : Byte) (s : State) : (busWrite a v s).temp = s.temp := by
  unfold busWrite; split <;> rfl
@[simp] theorem busWrite_cycles (a : Word) (v : Byte) (s : State) : (busWrite a v s).cycles = s.cycles := by
  unfold busWrite; split <;> rfl
@[simp] theorem busWrite_nmiPending (a : Word) (v : Byte) (s : State) : (busWrite a v s).nmiPending = s.nmiPending := by
  unfold busWrite; split <;> rfl
@[simp] theorem busWrite_busMap (a : Word) (v : Byte) (s : State) : (busWrite a v s).busMap = s.busMap := by
  unfold busWrite; split <;> rfl
@[simp] theorem busWrite_hostCalls (a : Word) (v : Byte) (s : State) : (busWrite a v s).hostCalls = s.hostCalls := by
  unfold busWrite; split <;> rfl
@[simp] theorem busWrite_target (a : Word) (v : Byte) (s : State) (a' : Word) : (busWrite a v s).target a' = s.target a' := by simp [State.target]
end busWrite

theorem busRead_ram {a : Word} {s : State} (h : s.target a = .ram) :
    busRead a s = (memRead s.mem a.toNat, s) := by simp [busRead, busReadOn, h]

/-- Where plain RAM is not promised the `Bus` parameter answers, and has seen the access (R51, R52). -/
theorem busRead_other {a : Word} {s : State} (h : s.target a ≠ .ram) :
    busRead a s = (Config.bus.answer s.busLog a, s.logAccess (.read a)) := by
  unfold busRead busReadOn
  split <;> simp_all

theorem busRead_device {a : Word} {s : State} (h : s.target a = .device) :
    busRead a s = (Config.bus.answer s.busLog a, s.logAccess (.read a)) := busRead_other (by simp [h])

theorem busWrite_ram {a : Word} {v : Byte} {s : State} (h : s.target a = .ram) :
    busWrite a v s = (s.setMem (memWrite s.mem a.toNat v)).logAccess (.write a v) := by simp [busWrite, h]

theorem busWrite_unmapped {a : Word} {v : Byte} {s : State} (h : s.target a = .unmapped) :
    busWrite a v s = s := by simp [busWrite, h]

theorem busWrite_device {a : Word} {v : Byte} {s : State} (h : s.target a = .device) :
    busWrite a v s = s.logAccess (.write a v) := by simp [busWrite, h]

/-- The bus sees every write but a dropped one (R51, R52). -/
theorem busWrite_busLog {a : Word} {v : Byte} {s : State} (h : s.target a ≠ .unmapped) :
    (busWrite a v s).busLog = .write a v :: s.busLog := by
  unfold busWrite
  split <;> simp_all

/-- A write changes no byte of memory but the one at its address. -/
theorem busWrite_memRead_other {a : Word} {v : Byte} {s : State} {k : Nat} (h : k ≠ a.toNat) :
    memRead (busWrite a v s).mem k = memRead s.mem k := by
  unfold busWrite
  split
  · exact memRead_memWrite_other h
  · rfl
  · rfl

/-- The bus's part of a state. -/
abbrev State.bus (s : State) : Memory × List Window × List BusAccess := (s.mem, s.busMap, s.busLog)

/-- The bus's part of a state is reached from that of `s` by reads and writes in some order: all the core can do to it
(R50, R62). -/
inductive BusSteps (s : State) : State → Prop
  | refl : BusSteps s s
  | read {t : State} (h : BusSteps s t) (a : Word) : BusSteps s (busRead a t).2
  | write {t : State} (h : BusSteps s t) (a : Word) (v : Byte) : BusSteps s (busWrite a v t)
  | core {t u : State} (h : BusSteps s t) (e : u.bus = t.bus) : BusSteps s u

theorem BusSteps.trans {s t u : State} (h : BusSteps s t) (k : BusSteps t u) : BusSteps s u := by
  induction k with
  | refl => exact h
  | read _ a ih => exact ih.read a
  | write _ a v ih => exact ih.write a v
  | core _ e ih => exact ih.core e

/-- The accesses keep the memory canonical. -/
theorem BusSteps.wf {s t : State} (h : BusSteps s t) (hw : s.mem.wf = true) : t.mem.wf = true := by
  induction h with
  | refl => exact hw
  | read _ a ih => rwa [busRead_mem]
  | write _ a v ih =>
    unfold busWrite
    split
    · exact memWf_memWrite ih a.isLt
    · exact ih
    · exact ih
  | core _ e ih => rwa [(Prod.mk.inj e).1]

/-- The accesses only extend the log (R62). -/
theorem BusSteps.log {s t : State} (h : BusSteps s t) : s.busLog <:+ t.busLog := by
  induction h with
  | refl => exact List.suffix_refl _
  | read _ a ih =>
    refine ih.trans ?_
    unfold busRead busReadOn
    split <;> simp
  | write _ a v ih =>
    refine ih.trans ?_
    unfold busWrite
    split <;> simp
  | core _ e ih => rwa [(Prod.mk.inj (Prod.mk.inj e).2).2]

/-- No access changes the address map. -/
theorem BusSteps.map {s t : State} (h : BusSteps s t) : t.busMap = s.busMap := by
  induction h with
  | refl => rfl
  | read _ a ih => rwa [busRead_busMap]
  | write _ a v ih => rwa [busWrite_busMap]
  | core _ e ih => rwa [(Prod.mk.inj (Prod.mk.inj e).2).1]

section read16
@[simp] theorem read16_a (w : Word) (s : State) : (read16 w s).2.a = s.a := by simp [read16]
@[simp] theorem read16_x (w : Word) (s : State) : (read16 w s).2.x = s.x := by simp [read16]
@[simp] theorem read16_y (w : Word) (s : State) : (read16 w s).2.y = s.y := by simp [read16]
@[simp] theorem read16_sp (w : Word) (s : State) : (read16 w s).2.sp = s.sp := by simp [read16]
@[simp] theorem read16_pc (w : Word) (s : State) : (read16 w s).2.pc = s.pc := by simp [read16]
@[simp] theorem read16_p (w : Word) (s : State) : (read16 w s).2.p = s.p := by simp [read16]
@[simp] theorem read16_opcode (w : Word) (s : State) : (read16 w s).2.opcode = s.opcode := by simp [read16]
@[simp] theorem read16_fetched (w : Word) (s : State) : (read16 w s).2.fetched = s.fetched := by simp [read16]
@[simp] theorem read16_addrAbs (w : Word) (s : State) : (read16 w s).2.addrAbs = s.addrAbs := by simp [read16]
@[simp] theorem read16_addrRel (w : Word) (s : State) : (read16 w s).2.addrRel = s.addrRel := by simp [read16]
@[simp] theorem read16_temp (w : Word) (s : State) : (read16 w s).2.temp = s.temp := by simp [read16]
@[simp] theorem read16_cycles (w : Word) (s : State) : (read16 w s).2.cycles = s.cycles := by simp [read16]
@[simp] theorem read16_nmiPending (w : Word) (s : State) : (read16 w s).2.nmiPending = s.nmiPending := by simp [read16]
@[simp] theorem read16_mem (w : Word) (s : State) : (read16 w s).2.mem = s.mem := by simp [read16]
@[simp] theorem read16_busMap (w : Word) (s : State) : (read16 w s).2.busMap = s.busMap := by simp [read16]
@[simp] theorem read16_hostCalls (w : Word) (s : State) : (read16 w s).2.hostCalls = s.hostCalls := by simp [read16]
@[simp] theorem read16_target (w : Word) (s : State) (a' : Word) : (read16 w s).2.target a' = s.target a' := by simp [State.target]
end read16

section push
@[simp] theorem push_a (v : Byte) (s : State) : (push v s).a = s.a := by simp [push]
@[simp] theorem push_x (v : Byte) (s : State) : (push v s).x = s.x := by simp [push]
@[simp] theorem push_y (v : Byte) (s : State) : (push v s).y = s.y := by simp [push]
@[simp] theorem push_pc (v : Byte) (s : State) : (push v s).pc = s.pc := by simp [push]
@[simp] theorem push_p (v : Byte) (s : State) : (push v s).p = s.p := by simp [push]
@[simp] theorem push_opcode (v : Byte) (s : State) : (push v s).opcode = s.opcode := by simp [push]
@[simp] theorem push_fetched (v : Byte) (s : State) : (push v s).fetched = s.fetched := by simp [push]
@[simp] theorem push_addrAbs (v : Byte) (s : State) : (push v s).addrAbs = s.addrAbs := by simp [push]
@[simp] theorem push_addrRel (v : Byte) (s : State) : (push v s).addrRel = s.addrRel := by simp [push]
@[simp] theorem push_temp (v : Byte) (s : State) : (push v s).temp = s.temp := by simp [push]
@[simp] theorem push_cycles (v : Byte) (s : State) : (push v s).cycles = s.cycles := by simp [push]
@[simp] theorem push_nmiPending (v : Byte) (s : State) : (push v s).nmiPending = s.nmiPending := by simp [push]
@[simp] theorem push_busMap (v : Byte) (s : State) : (push v s).busMap = s.busMap := by simp [push]
@[simp] theorem push_hostCalls (v : Byte) (s : State) : (push v s).hostCalls = s.hostCalls := by simp [push]
@[simp] theorem push_target (v : Byte) (s : State) (a' : Word) : (push v s).target a' = s.target a' := by simp [State.target]
@[simp] theorem push_sp (v : Byte) (s : State) : (push v s).sp = s.sp - 1#8 := by simp [push]
end push

section pushWord
@[simp] theorem pushWord_a (w : Word) (s : State) : (pushWord w s).a = s.a := by simp [pushWord]
@[simp] theorem pushWord_x (w : Word) (s : State) : (pushWord w s).x = s.x := by simp [pushWord]
@[simp] theorem pushWord_y (w : Word) (s : State) : (pushWord w s).y = s.y := by simp [pushWord]
@[simp] theorem pushWord_pc (w : Word) (s : State) : (pushWord w s).pc = s.pc := by simp [pushWord]
@[simp] theorem pushWord_p (w : Word) (s : State) : (pushWord w s).p = s.p := by simp [pushWord]
@[simp] theorem pushWord_opcode (w : Word) (s : State) : (pushWord w s).opcode = s.opcode := by simp [pushWord]
@[simp] theorem pushWord_fetched (w : Word) (s : State) : (pushWord w s).fetched = s.fetched := by simp [pushWord]
@[simp] theorem pushWord_addrAbs (w : Word) (s : State) : (pushWord w s).addrAbs = s.addrAbs := by simp [pushWord]
@[simp] theorem pushWord_addrRel (w : Word) (s : State) : (pushWord w s).addrRel = s.addrRel := by simp [pushWord]
@[simp] theorem pushWord_temp (w : Word) (s : State) : (pushWord w s).temp = s.temp := by simp [pushWord]
@[simp] theorem pushWord_cycles (w : Word) (s : State) : (pushWord w s).cycles = s.cycles := by simp [pushWord]
@[simp] theorem pushWord_nmiPending (w : Word) (s : State) : (pushWord w s).nmiPending = s.nmiPending := by simp [pushWord]
@[simp] theorem pushWord_busMap (w : Word) (s : State) : (pushWord w s).busMap = s.busMap := by simp [pushWord]
@[simp] theorem pushWord_hostCalls (w : Word) (s : State) : (pushWord w s).hostCalls = s.hostCalls := by simp [pushWord]
@[simp] theorem pushWord_target (w : Word) (s : State) (a' : Word) : (pushWord w s).target a' = s.target a' := by simp [State.target]
@[simp] theorem pushWord_sp (w : Word) (s : State) : (pushWord w s).sp = s.sp - 1#8 - 1#8 := by simp [pushWord]
end pushWord

section pull
@[simp] theorem pull_a (s : State) : (pull s).2.a = s.a := by simp [pull]
@[simp] theorem pull_x (s : State) : (pull s).2.x = s.x := by simp [pull]
@[simp] theorem pull_y (s : State) : (pull s).2.y = s.y := by simp [pull]
@[simp] theorem pull_pc (s : State) : (pull s).2.pc = s.pc := by simp [pull]
@[simp] theorem pull_p (s : State) : (pull s).2.p = s.p := by simp [pull]
@[simp] theorem pull_opcode (s : State) : (pull s).2.opcode = s.opcode := by simp [pull]
@[simp] theorem pull_fetched (s : State) : (pull s).2.fetched = s.fetched := by simp [pull]
@[simp] theorem pull_addrAbs (s : State) : (pull s).2.addrAbs = s.addrAbs := by simp [pull]
@[simp] theorem pull_addrRel (s : State) : (pull s).2.addrRel = s.addrRel := by simp [pull]
@[simp] theorem pull_temp (s : State) : (pull s).2.temp = s.temp := by simp [pull]
@[simp] theorem pull_cycles (s : State) : (pull s).2.cycles = s.cycles := by simp [pull]
@[simp] theorem pull_nmiPending (s : State) : (pull s).2.nmiPending = s.nmiPending := by simp [pull]
@[simp] theorem pull_mem (s : State) : (pull s).2.mem = s.mem := by simp [pull]
@[simp] theorem pull_busMap (s : State) : (pull s).2.busMap = s.busMap := by simp [pull]
@[simp] theorem pull_hostCalls (s : State) : (pull s).2.hostCalls = s.hostCalls := by simp [pull]
@[simp] theorem pull_target (s : State) (a' : Word) : (pull s).2.target a' = s.target a' := by simp [State.target]
@[simp] theorem pull_sp (s : State) : (pull s).2.sp = s.sp + 1#8 := by simp [pull]
end pull

section pullWord
@[simp] theorem pullWord_a (s : State) : (pullWord s).2.a = s.a := by simp [pullWord]
@[simp] theorem pullWord_x (s : State) : (pullWord s).2.x = s.x := by simp [pullWord]
@[simp] theorem pullWord_y (s : State) : (pullWord s).2.y = s.y := by simp [pullWord]
@[simp] theorem pullWord_pc (s : State) : (pullWord s).2.pc = s.pc := by simp [pullWord]
@[simp] theorem pullWord_p (s : State) : (pullWord s).2.p = s.p := by simp [pullWord]
@[simp] theorem pullWord_opcode (s : State) : (pullWord s).2.opcode = s.opcode := by simp [pullWord]
@[simp] theorem pullWord_fetched (s : State) : (pullWord s).2.fetched = s.fetched := by simp [pullWord]
@[simp] theorem pullWord_addrAbs (s : State) : (pullWord s).2.addrAbs = s.addrAbs := by simp [pullWord]
@[simp] theorem pullWord_addrRel (s : State) : (pullWord s).2.addrRel = s.addrRel := by simp [pullWord]
@[simp] theorem pullWord_temp (s : State) : (pullWord s).2.temp = s.temp := by simp [pullWord]
@[simp] theorem pullWord_cycles (s : State) : (pullWord s).2.cycles = s.cycles := by simp [pullWord]
@[simp] theorem pullWord_nmiPending (s : State) : (pullWord s).2.nmiPending = s.nmiPending := by simp [pullWord]
@[simp] theorem pullWord_mem (s : State) : (pullWord s).2.mem = s.mem := by simp [pullWord]
@[simp] theorem pullWord_busMap (s : State) : (pullWord s).2.busMap = s.busMap := by simp [pullWord]
@[simp] theorem pullWord_hostCalls (s : State) : (pullWord s).2.hostCalls = s.hostCalls := by simp [pullWord]
@[simp] theorem pullWord_target (s : State) (a' : Word) : (pullWord s).2.target a' = s.target a' := by simp [State.target]
@[simp] theorem pullWord_sp (s : State) : (pullWord s).2.sp = s.sp + 1#8 + 1#8 := by simp [pullWord]
end pullWord

section enterInterrupt
@[simp] theorem enterInterrupt_a (k : Bool) (v : Word) (s : State) : (enterInterrupt k v s).a = s.a := by simp [enterInterrupt]
@[simp] theorem enterInterrupt_x (k : Bool) (v : Word) (s : State) : (enterInterrupt k v s).x = s.x := by simp [enterInterrupt]
@[simp] theorem enterInterrupt_y (k : Bool) (v : Word) (s : State) : (enterInterrupt k v s).y = s.y := by simp [enterInterrupt]
@[simp] theorem enterInterrupt_opcode (k : Bool) (v : Word) (s : State) : (enterInterrupt k v s).opcode = s.opcode := by simp [enterInterrupt]
@[simp] theorem enterInterrupt_fetched (k : Bool) (v : Word) (s : State) : (enterInterrupt k v s).fetched = s.fetched := by simp [enterInterrupt]
@[simp] theorem enterInterrupt_addrAbs (k : Bool) (v : Word) (s : State) : (enterInterrupt k v s).addrAbs = s.addrAbs := by simp [enterInterrupt]
@[simp] theorem enterInterrupt_addrRel (k : Bool) (v : Word) (s : State) : (enterInterrupt k v s).addrRel = s.addrRel := by simp [enterInterrupt]
@[simp] theorem enterInterrupt_temp (k : Bool) (v : Word) (s : State) : (enterInterrupt k v s).temp = s.temp := by simp [enterInterrupt]
@[simp] theorem enterInterrupt_cycles (k : Bool) (v : Word) (s : State) : (enterInterrupt k v s).cycles = s.cycles := by simp [enterInterrupt]
@[simp] theorem enterInterrupt_nmiPending (k : Bool) (v : Word) (s : State) : (enterInterrupt k v s).nmiPending = s.nmiPending := by simp [enterInterrupt]
@[simp] theorem enterInterrupt_busMap (k : Bool) (v : Word) (s : State) : (enterInterrupt k v s).busMap = s.busMap := by simp [enterInterrupt]
@[simp] theorem enterInterrupt_hostCalls (k : Bool) (v : Word) (s : State) : (enterInterrupt k v s).hostCalls = s.hostCalls := by simp [enterInterrupt]
@[simp] theorem enterInterrupt_target (k : Bool) (v : Word) (s : State) (a' : Word) : (enterInterrupt k v s).target a' = s.target a' := by simp [State.target]
@[simp] theorem enterInterrupt_sp (k : Bool) (v : Word) (s : State) : (enterInterrupt k v s).sp = s.sp - 1#8 - 1#8 - 1#8 := by
  simp [enterInterrupt]
@[simp] theorem enterInterrupt_p (k : Bool) (v : Word) (s : State) : (enterInterrupt k v s).p = { s.p with i := true } := by
  simp [enterInterrupt]
end enterInterrupt

section returnFromInterrupt
@[simp] theorem returnFromInterrupt_a (s : State) : (returnFromInterrupt s).a = s.a := by simp [returnFromInterrupt]
@[simp] theorem returnFromInterrupt_x (s : State) : (returnFromInterrupt s).x = s.x := by simp [returnFromInterrupt]
@[simp] theorem returnFromInterrupt_y (s : State) : (returnFromInterrupt s).y = s.y := by simp [returnFromInterrupt]
@[simp] theorem returnFromInterrupt_opcode (s : State) : (returnFromInterrupt s).opcode = s.opcode := by simp [returnFromInterrupt]
@[simp] theorem returnFromInterrupt_fetched (s : State) : (returnFromInterrupt s).fetched = s.fetched := by simp [returnFromInterrupt]
@[simp] theorem returnFromInterrupt_addrAbs (s : State) : (returnFromInterrupt s).addrAbs = s.addrAbs := by simp [returnFromInterrupt]
@[simp] theorem returnFromInterrupt_addrRel (s : State) : (returnFromInterrupt s).addrRel = s.addrRel := by simp [returnFromInterrupt]
@[simp] theorem returnFromInterrupt_temp (s : State) : (returnFromInterrupt s).temp = s.temp := by simp [returnFromInterrupt]
@[simp] theorem returnFromInterrupt_cycles (s : State) : (returnFromInterrupt s).cycles = s.cycles := by simp [returnFromInterrupt]
@[simp] theorem returnFromInterrupt_nmiPending (s : State) : (returnFromInterrupt s).nmiPending = s.nmiPending := by simp [returnFromInterrupt]
@[simp] theorem returnFromInterrupt_mem (s : State) : (returnFromInterrupt s).mem = s.mem := by simp [returnFromInterrupt]
@[simp] theorem returnFromInterrupt_busMap (s : State) : (returnFromInterrupt s).busMap = s.busMap := by simp [returnFromInterrupt]
@[simp] theorem returnFromInterrupt_hostCalls (s : State) : (returnFromInterrupt s).hostCalls = s.hostCalls := by simp [returnFromInterrupt]
@[simp] theorem returnFromInterrupt_target (s : State) (a' : Word) : (returnFromInterrupt s).target a' = s.target a' := by simp [State.target]
@[simp] theorem returnFromInterrupt_sp (s : State) : (returnFromInterrupt s).sp = s.sp + 1#8 + 1#8 + 1#8 := by
  simp [returnFromInterrupt]
end returnFromInterrupt

/-! What each operation does to the bus: reads and writes, after whatever came before. -/

section steps
variable {s t : State} (h : BusSteps s t)
include h

theorem push_steps (v : Byte) : BusSteps s (push v t) := (h.write (stackAddr t.sp) v).core rfl

theorem pushWord_steps (w : Word) : BusSteps s (pushWord w t) := push_steps (push_steps h _) _

theorem read16_steps (w : Word) : BusSteps s (read16 w t).2 := (h.read w).read (w + 1#16)

theorem pull_steps : BusSteps s (pull t).2 :=
  (h.core (u := t.setSp (t.sp + 1#8)) rfl).read (stackAddr (t.sp + 1#8))

theorem pullWord_steps : BusSteps s (pullWord t).2 := pull_steps (pull_steps h)

theorem enterInterrupt_steps (k : Bool) (v : Word) : BusSteps s (enterInterrupt k v t) := by
  let u := push (pushedStatus k (pushWord t.pc t).p) (pushWord t.pc t)
  have hu : BusSteps s u := push_steps (pushWord_steps h t.pc) _
  exact (read16_steps (hu.core (u := u.setP { u.p with i := true }) rfl) v).core rfl

theorem returnFromInterrupt_steps : BusSteps s (returnFromInterrupt t) := by
  let u := (pull t).2.setP { statusOf (pull t).1 with b := false }
  exact (pullWord_steps ((pull_steps h).core (u := u) rfl)).core rfl

theorem hostReset_steps : BusSteps s (hostReset t) := (read16_steps h Config.resetVector).core rfl

end steps

end Sys2Proof.Machine
end

