-- ==== Sys2Proof/Laws/PerInstr.lean ====
section
/-! SUPPORT. What holds of each instruction as syntax, one lemma per constructor. -/

namespace Sys2Proof.Laws.RowAgrees

/-- The row the dispatch table has at the instruction's opcode (R83) names the instruction's handler and mode, and the
form is one R86 lists. -/
def Statement (i : Instr) : Prop :=
  (table i.opcode).handler = i.handler ∧ (table i.opcode).mode = i.operand.mode ∧ i.wellFormed = true

theorem brk : Statement (.brk) := ⟨rfl, rfl, rfl⟩
theorem oraIzx (b : Byte) : Statement (.oraIzx b) := ⟨rfl, rfl, rfl⟩
theorem unassigned02 : Statement (.unassigned02) := ⟨rfl, rfl, rfl⟩
theorem unassigned03 : Statement (.unassigned03) := ⟨rfl, rfl, rfl⟩
theorem unassigned04 : Statement (.unassigned04) := ⟨rfl, rfl, rfl⟩
theorem oraZp (b : Byte) : Statement (.oraZp b) := ⟨rfl, rfl, rfl⟩
theorem aslZp (b : Byte) : Statement (.aslZp b) := ⟨rfl, rfl, rfl⟩
theorem unassigned07 : Statement (.unassigned07) := ⟨rfl, rfl, rfl⟩
theorem php : Statement (.php) := ⟨rfl, rfl, rfl⟩
theorem oraImm (v : Byte) : Statement (.oraImm v) := ⟨rfl, rfl, rfl⟩
theorem aslAcc : Statement (.aslAcc) := ⟨rfl, rfl, rfl⟩
theorem unassigned0B : Statement (.unassigned0B) := ⟨rfl, rfl, rfl⟩
theorem unassigned0C : Statement (.unassigned0C) := ⟨rfl, rfl, rfl⟩
theorem oraAbs (w : Word) : Statement (.oraAbs w) := ⟨rfl, rfl, rfl⟩
theorem aslAbs (w : Word) : Statement (.aslAbs w) := ⟨rfl, rfl, rfl⟩
theorem unassigned0F : Statement (.unassigned0F) := ⟨rfl, rfl, rfl⟩
theorem bpl (b : Byte) : Statement (.bpl b) := ⟨rfl, rfl, rfl⟩
theorem oraIzy (b : Byte) : Statement (.oraIzy b) := ⟨rfl, rfl, rfl⟩
theorem unassigned12 : Statement (.unassigned12) := ⟨rfl, rfl, rfl⟩
theorem unassigned13 : Statement (.unassigned13) := ⟨rfl, rfl, rfl⟩
theorem unassigned14 : Statement (.unassigned14) := ⟨rfl, rfl, rfl⟩
theorem oraZpx (b : Byte) : Statement (.oraZpx b) := ⟨rfl, rfl, rfl⟩
theorem aslZpx (b : Byte) : Statement (.aslZpx b) := ⟨rfl, rfl, rfl⟩
theorem unassigned17 : Statement (.unassigned17) := ⟨rfl, rfl, rfl⟩
theorem clc : Statement (.clc) := ⟨rfl, rfl, rfl⟩
theorem oraAby (w : Word) : Statement (.oraAby w) := ⟨rfl, rfl, rfl⟩
theorem unassigned1A : Statement (.unassigned1A) := ⟨rfl, rfl, rfl⟩
theorem unassigned1B : Statement (.unassigned1B) := ⟨rfl, rfl, rfl⟩
theorem unassigned1C : Statement (.unassigned1C) := ⟨rfl, rfl, rfl⟩
theorem oraAbx (w : Word) : Statement (.oraAbx w) := ⟨rfl, rfl, rfl⟩
theorem aslAbx (w : Word) : Statement (.aslAbx w) := ⟨rfl, rfl, rfl⟩
theorem unassigned1F : Statement (.unassigned1F) := ⟨rfl, rfl, rfl⟩
theorem jsr (w : Word) : Statement (.jsr w) := ⟨rfl, rfl, rfl⟩
theorem andIzx (b : Byte) : Statement (.andIzx b) := ⟨rfl, rfl, rfl⟩
theorem unassigned22 : Statement (.unassigned22) := ⟨rfl, rfl, rfl⟩
theorem unassigned23 : Statement (.unassigned23) := ⟨rfl, rfl, rfl⟩
theorem bitZp (b : Byte) : Statement (.bitZp b) := ⟨rfl, rfl, rfl⟩
theorem andZp (b : Byte) : Statement (.andZp b) := ⟨rfl, rfl, rfl⟩
theorem rolZp (b : Byte) : Statement (.rolZp b) := ⟨rfl, rfl, rfl⟩
theorem unassigned27 : Statement (.unassigned27) := ⟨rfl, rfl, rfl⟩
theorem plp : Statement (.plp) := ⟨rfl, rfl, rfl⟩
theorem andImm (v : Byte) : Statement (.andImm v) := ⟨rfl, rfl, rfl⟩
theorem rolAcc : Statement (.rolAcc) := ⟨rfl, rfl, rfl⟩
theorem unassigned2B : Statement (.unassigned2B) := ⟨rfl, rfl, rfl⟩
theorem bitAbs (w : Word) : Statement (.bitAbs w) := ⟨rfl, rfl, rfl⟩
theorem andAbs (w : Word) : Statement (.andAbs w) := ⟨rfl, rfl, rfl⟩
theorem rolAbs (w : Word) : Statement (.rolAbs w) := ⟨rfl, rfl, rfl⟩
theorem unassigned2F : Statement (.unassigned2F) := ⟨rfl, rfl, rfl⟩
theorem bmi (b : Byte) : Statement (.bmi b) := ⟨rfl, rfl, rfl⟩
theorem andIzy (b : Byte) : Statement (.andIzy b) := ⟨rfl, rfl, rfl⟩
theorem unassigned32 : Statement (.unassigned32) := ⟨rfl, rfl, rfl⟩
theorem unassigned33 : Statement (.unassigned33) := ⟨rfl, rfl, rfl⟩
theorem unassigned34 : Statement (.unassigned34) := ⟨rfl, rfl, rfl⟩
theorem andZpx (b : Byte) : Statement (.andZpx b) := ⟨rfl, rfl, rfl⟩
theorem rolZpx (b : Byte) : Statement (.rolZpx b) := ⟨rfl, rfl, rfl⟩
theorem unassigned37 : Statement (.unassigned37) := ⟨rfl, rfl, rfl⟩
theorem sec : Statement (.sec) := ⟨rfl, rfl, rfl⟩
theorem andAby (w : Word) : Statement (.andAby w) := ⟨rfl, rfl, rfl⟩
theorem unassigned3A : Statement (.unassigned3A) := ⟨rfl, rfl, rfl⟩
theorem unassigned3B : Statement (.unassigned3B) := ⟨rfl, rfl, rfl⟩
theorem unassigned3C : Statement (.unassigned3C) := ⟨rfl, rfl, rfl⟩
theorem andAbx (w : Word) : Statement (.andAbx w) := ⟨rfl, rfl, rfl⟩
theorem rolAbx (w : Word) : Statement (.rolAbx w) := ⟨rfl, rfl, rfl⟩
theorem unassigned3F : Statement (.unassigned3F) := ⟨rfl, rfl, rfl⟩
theorem rti : Statement (.rti) := ⟨rfl, rfl, rfl⟩
theorem eorIzx (b : Byte) : Statement (.eorIzx b) := ⟨rfl, rfl, rfl⟩
theorem unassigned42 : Statement (.unassigned42) := ⟨rfl, rfl, rfl⟩
theorem unassigned43 : Statement (.unassigned43) := ⟨rfl, rfl, rfl⟩
theorem unassigned44 : Statement (.unassigned44) := ⟨rfl, rfl, rfl⟩
theorem eorZp (b : Byte) : Statement (.eorZp b) := ⟨rfl, rfl, rfl⟩
theorem lsrZp (b : Byte) : Statement (.lsrZp b) := ⟨rfl, rfl, rfl⟩
theorem unassigned47 : Statement (.unassigned47) := ⟨rfl, rfl, rfl⟩
theorem pha : Statement (.pha) := ⟨rfl, rfl, rfl⟩
theorem eorImm (v : Byte) : Statement (.eorImm v) := ⟨rfl, rfl, rfl⟩
theorem lsrAcc : Statement (.lsrAcc) := ⟨rfl, rfl, rfl⟩
theorem unassigned4B : Statement (.unassigned4B) := ⟨rfl, rfl, rfl⟩
theorem jmpAbs (w : Word) : Statement (.jmpAbs w) := ⟨rfl, rfl, rfl⟩
theorem eorAbs (w : Word) : Statement (.eorAbs w) := ⟨rfl, rfl, rfl⟩
theorem lsrAbs (w : Word) : Statement (.lsrAbs w) := ⟨rfl, rfl, rfl⟩
theorem unassigned4F : Statement (.unassigned4F) := ⟨rfl, rfl, rfl⟩
theorem bvc (b : Byte) : Statement (.bvc b) := ⟨rfl, rfl, rfl⟩
theorem eorIzy (b : Byte) : Statement (.eorIzy b) := ⟨rfl, rfl, rfl⟩
theorem unassigned52 : Statement (.unassigned52) := ⟨rfl, rfl, rfl⟩
theorem unassigned53 : Statement (.unassigned53) := ⟨rfl, rfl, rfl⟩
theorem unassigned54 : Statement (.unassigned54) := ⟨rfl, rfl, rfl⟩
theorem eorZpx (b : Byte) : Statement (.eorZpx b) := ⟨rfl, rfl, rfl⟩
theorem lsrZpx (b : Byte) : Statement (.lsrZpx b) := ⟨rfl, rfl, rfl⟩
theorem unassigned57 : Statement (.unassigned57) := ⟨rfl, rfl, rfl⟩
theorem cli : Statement (.cli) := ⟨rfl, rfl, rfl⟩
theorem eorAby (w : Word) : Statement (.eorAby w) := ⟨rfl, rfl, rfl⟩
theorem unassigned5A : Statement (.unassigned5A) := ⟨rfl, rfl, rfl⟩
theorem unassigned5B : Statement (.unassigned5B) := ⟨rfl, rfl, rfl⟩
theorem unassigned5C : Statement (.unassigned5C) := ⟨rfl, rfl, rfl⟩
theorem eorAbx (w : Word) : Statement (.eorAbx w) := ⟨rfl, rfl, rfl⟩
theorem lsrAbx (w : Word) : Statement (.lsrAbx w) := ⟨rfl, rfl, rfl⟩
theorem unassigned5F : Statement (.unassigned5F) := ⟨rfl, rfl, rfl⟩
theorem rts : Statement (.rts) := ⟨rfl, rfl, rfl⟩
theorem adcIzx (b : Byte) : Statement (.adcIzx b) := ⟨rfl, rfl, rfl⟩
theorem unassigned62 : Statement (.unassigned62) := ⟨rfl, rfl, rfl⟩
theorem unassigned63 : Statement (.unassigned63) := ⟨rfl, rfl, rfl⟩
theorem unassigned64 : Statement (.unassigned64) := ⟨rfl, rfl, rfl⟩
theorem adcZp (b : Byte) : Statement (.adcZp b) := ⟨rfl, rfl, rfl⟩
theorem rorZp (b : Byte) : Statement (.rorZp b) := ⟨rfl, rfl, rfl⟩
theorem unassigned67 : Statement (.unassigned67) := ⟨rfl, rfl, rfl⟩
theorem pla : Statement (.pla) := ⟨rfl, rfl, rfl⟩
theorem adcImm (v : Byte) : Statement (.adcImm v) := ⟨rfl, rfl, rfl⟩
theorem rorAcc : Statement (.rorAcc) := ⟨rfl, rfl, rfl⟩
theorem unassigned6B : Statement (.unassigned6B) := ⟨rfl, rfl, rfl⟩
theorem jmpInd (w : Word) : Statement (.jmpInd w) := ⟨rfl, rfl, rfl⟩
theorem adcAbs (w : Word) : Statement (.adcAbs w) := ⟨rfl, rfl, rfl⟩
theorem rorAbs (w : Word) : Statement (.rorAbs w) := ⟨rfl, rfl, rfl⟩
theorem unassigned6F : Statement (.unassigned6F) := ⟨rfl, rfl, rfl⟩
theorem bvs (b : Byte) : Statement (.bvs b) := ⟨rfl, rfl, rfl⟩
theorem adcIzy (b : Byte) : Statement (.adcIzy b) := ⟨rfl, rfl, rfl⟩
theorem unassigned72 : Statement (.unassigned72) := ⟨rfl, rfl, rfl⟩
theorem unassigned73 : Statement (.unassigned73) := ⟨rfl, rfl, rfl⟩
theorem unassigned74 : Statement (.unassigned74) := ⟨rfl, rfl, rfl⟩
theorem adcZpx (b : Byte) : Statement (.adcZpx b) := ⟨rfl, rfl, rfl⟩
theorem rorZpx (b : Byte) : Statement (.rorZpx b) := ⟨rfl, rfl, rfl⟩
theorem unassigned77 : Statement (.unassigned77) := ⟨rfl, rfl, rfl⟩
theorem sei : Statement (.sei) := ⟨rfl, rfl, rfl⟩
theorem adcAby (w : Word) : Statement (.adcAby w) := ⟨rfl, rfl, rfl⟩
theorem unassigned7A : Statement (.unassigned7A) := ⟨rfl, rfl, rfl⟩
theorem unassigned7B : Statement (.unassigned7B) := ⟨rfl, rfl, rfl⟩
theorem unassigned7C : Statement (.unassigned7C) := ⟨rfl, rfl, rfl⟩
theorem adcAbx (w : Word) : Statement (.adcAbx w) := ⟨rfl, rfl, rfl⟩
theorem rorAbx (w : Word) : Statement (.rorAbx w) := ⟨rfl, rfl, rfl⟩
theorem unassigned7F : Statement (.unassigned7F) := ⟨rfl, rfl, rfl⟩
theorem unassigned80 : Statement (.unassigned80) := ⟨rfl, rfl, rfl⟩
theorem staIzx (b : Byte) : Statement (.staIzx b) := ⟨rfl, rfl, rfl⟩
theorem unassigned82 : Statement (.unassigned82) := ⟨rfl, rfl, rfl⟩
theorem unassigned83 : Statement (.unassigned83) := ⟨rfl, rfl, rfl⟩
theorem styZp (b : Byte) : Statement (.styZp b) := ⟨rfl, rfl, rfl⟩
theorem staZp (b : Byte) : Statement (.staZp b) := ⟨rfl, rfl, rfl⟩
theorem stxZp (b : Byte) : Statement (.stxZp b) := ⟨rfl, rfl, rfl⟩
theorem unassigned87 : Statement (.unassigned87) := ⟨rfl, rfl, rfl⟩
theorem dey : Statement (.dey) := ⟨rfl, rfl, rfl⟩
theorem unassigned89 : Statement (.unassigned89) := ⟨rfl, rfl, rfl⟩
theorem txa : Statement (.txa) := ⟨rfl, rfl, rfl⟩
theorem unassigned8B : Statement (.unassigned8B) := ⟨rfl, rfl, rfl⟩
theorem styAbs (w : Word) : Statement (.styAbs w) := ⟨rfl, rfl, rfl⟩
theorem staAbs (w : Word) : Statement (.staAbs w) := ⟨rfl, rfl, rfl⟩
theorem stxAbs (w : Word) : Statement (.stxAbs w) := ⟨rfl, rfl, rfl⟩
theorem unassigned8F : Statement (.unassigned8F) := ⟨rfl, rfl, rfl⟩
theorem bcc (b : Byte) : Statement (.bcc b) := ⟨rfl, rfl, rfl⟩
theorem staIzy (b : Byte) : Statement (.staIzy b) := ⟨rfl, rfl, rfl⟩
theorem unassigned92 : Statement (.unassigned92) := ⟨rfl, rfl, rfl⟩
theorem unassigned93 : Statement (.unassigned93) := ⟨rfl, rfl, rfl⟩
theorem styZpx (b : Byte) : Statement (.styZpx b) := ⟨rfl, rfl, rfl⟩
theorem staZpx (b : Byte) : Statement (.staZpx b) := ⟨rfl, rfl, rfl⟩
theorem stxZpy (b : Byte) : Statement (.stxZpy b) := ⟨rfl, rfl, rfl⟩
theorem unassigned97 : Statement (.unassigned97) := ⟨rfl, rfl, rfl⟩
theorem tya : Statement (.tya) := ⟨rfl, rfl, rfl⟩
theorem staAby (w : Word) : Statement (.staAby w) := ⟨rfl, rfl, rfl⟩
theorem txs : Statement (.txs) := ⟨rfl, rfl, rfl⟩
theorem unassigned9B : Statement (.unassigned9B) := ⟨rfl, rfl, rfl⟩
theorem unassigned9C : Statement (.unassigned9C) := ⟨rfl, rfl, rfl⟩
theorem staAbx (w : Word) : Statement (.staAbx w) := ⟨rfl, rfl, rfl⟩
theorem unassigned9E : Statement (.unassigned9E) := ⟨rfl, rfl, rfl⟩
theorem unassigned9F : Statement (.unassigned9F) := ⟨rfl, rfl, rfl⟩
theorem ldyImm (v : Byte) : Statement (.ldyImm v) := ⟨rfl, rfl, rfl⟩
theorem ldaIzx (b : Byte) : Statement (.ldaIzx b) := ⟨rfl, rfl, rfl⟩
theorem ldxImm (v : Byte) : Statement (.ldxImm v) := ⟨rfl, rfl, rfl⟩
theorem unassignedA3 : Statement (.unassignedA3) := ⟨rfl, rfl, rfl⟩
theorem ldyZp (b : Byte) : Statement (.ldyZp b) := ⟨rfl, rfl, rfl⟩
theorem ldaZp (b : Byte) : Statement (.ldaZp b) := ⟨rfl, rfl, rfl⟩
theorem ldxZp (b : Byte) : Statement (.ldxZp b) := ⟨rfl, rfl, rfl⟩
theorem unassignedA7 : Statement (.unassignedA7) := ⟨rfl, rfl, rfl⟩
theorem tay : Statement (.tay) := ⟨rfl, rfl, rfl⟩
theorem ldaImm (v : Byte) : Statement (.ldaImm v) := ⟨rfl, rfl, rfl⟩
theorem tax : Statement (.tax) := ⟨rfl, rfl, rfl⟩
theorem unassignedAB : Statement (.unassignedAB) := ⟨rfl, rfl, rfl⟩
theorem ldyAbs (w : Word) : Statement (.ldyAbs w) := ⟨rfl, rfl, rfl⟩
theorem ldaAbs (w : Word) : Statement (.ldaAbs w) := ⟨rfl, rfl, rfl⟩
theorem ldxAbs (w : Word) : Statement (.ldxAbs w) := ⟨rfl, rfl, rfl⟩
theorem unassignedAF : Statement (.unassignedAF) := ⟨rfl, rfl, rfl⟩
theorem bcs (b : Byte) : Statement (.bcs b) := ⟨rfl, rfl, rfl⟩
theorem ldaIzy (b : Byte) : Statement (.ldaIzy b) := ⟨rfl, rfl, rfl⟩
theorem unassignedB2 : Statement (.unassignedB2) := ⟨rfl, rfl, rfl⟩
theorem unassignedB3 : Statement (.unassignedB3) := ⟨rfl, rfl, rfl⟩
theorem ldyZpx (b : Byte) : Statement (.ldyZpx b) := ⟨rfl, rfl, rfl⟩
theorem ldaZpx (b : Byte) : Statement (.ldaZpx b) := ⟨rfl, rfl, rfl⟩
theorem ldxZpy (b : Byte) : Statement (.ldxZpy b) := ⟨rfl, rfl, rfl⟩
theorem unassignedB7 : Statement (.unassignedB7) := ⟨rfl, rfl, rfl⟩
theorem clv : Statement (.clv) := ⟨rfl, rfl, rfl⟩
theorem ldaAby (w : Word) : Statement (.ldaAby w) := ⟨rfl, rfl, rfl⟩
theorem tsx : Statement (.tsx) := ⟨rfl, rfl, rfl⟩
theorem unassignedBB : Statement (.unassignedBB) := ⟨rfl, rfl, rfl⟩
theorem ldyAbx (w : Word) : Statement (.ldyAbx w) := ⟨rfl, rfl, rfl⟩
theorem ldaAbx (w : Word) : Statement (.ldaAbx w) := ⟨rfl, rfl, rfl⟩
theorem ldxAby (w : Word) : Statement (.ldxAby w) := ⟨rfl, rfl, rfl⟩
theorem unassignedBF : Statement (.unassignedBF) := ⟨rfl, rfl, rfl⟩
theorem cpyImm (v : Byte) : Statement (.cpyImm v) := ⟨rfl, rfl, rfl⟩
theorem cmpIzx (b : Byte) : Statement (.cmpIzx b) := ⟨rfl, rfl, rfl⟩
theorem unassignedC2 : Statement (.unassignedC2) := ⟨rfl, rfl, rfl⟩
theorem unassignedC3 : Statement (.unassignedC3) := ⟨rfl, rfl, rfl⟩
theorem cpyZp (b : Byte) : Statement (.cpyZp b) := ⟨rfl, rfl, rfl⟩
theorem cmpZp (b : Byte) : Statement (.cmpZp b) := ⟨rfl, rfl, rfl⟩
theorem decZp (b : Byte) : Statement (.decZp b) := ⟨rfl, rfl, rfl⟩
theorem unassignedC7 : Statement (.unassignedC7) := ⟨rfl, rfl, rfl⟩
theorem iny : Statement (.iny) := ⟨rfl, rfl, rfl⟩
theorem cmpImm (v : Byte) : Statement (.cmpImm v) := ⟨rfl, rfl, rfl⟩
theorem dex : Statement (.dex) := ⟨rfl, rfl, rfl⟩
theorem unassignedCB : Statement (.unassignedCB) := ⟨rfl, rfl, rfl⟩
theorem cpyAbs (w : Word) : Statement (.cpyAbs w) := ⟨rfl, rfl, rfl⟩
theorem cmpAbs (w : Word) : Statement (.cmpAbs w) := ⟨rfl, rfl, rfl⟩
theorem decAbs (w : Word) : Statement (.decAbs w) := ⟨rfl, rfl, rfl⟩
theorem unassignedCF : Statement (.unassignedCF) := ⟨rfl, rfl, rfl⟩
theorem bne (b : Byte) : Statement (.bne b) := ⟨rfl, rfl, rfl⟩
theorem cmpIzy (b : Byte) : Statement (.cmpIzy b) := ⟨rfl, rfl, rfl⟩
theorem unassignedD2 : Statement (.unassignedD2) := ⟨rfl, rfl, rfl⟩
theorem unassignedD3 : Statement (.unassignedD3) := ⟨rfl, rfl, rfl⟩
theorem unassignedD4 : Statement (.unassignedD4) := ⟨rfl, rfl, rfl⟩
theorem cmpZpx (b : Byte) : Statement (.cmpZpx b) := ⟨rfl, rfl, rfl⟩
theorem decZpx (b : Byte) : Statement (.decZpx b) := ⟨rfl, rfl, rfl⟩
theorem unassignedD7 : Statement (.unassignedD7) := ⟨rfl, rfl, rfl⟩
theorem cld : Statement (.cld) := ⟨rfl, rfl, rfl⟩
theorem cmpAby (w : Word) : Statement (.cmpAby w) := ⟨rfl, rfl, rfl⟩
theorem unassignedDA : Statement (.unassignedDA) := ⟨rfl, rfl, rfl⟩
theorem unassignedDB : Statement (.unassignedDB) := ⟨rfl, rfl, rfl⟩
theorem unassignedDC : Statement (.unassignedDC) := ⟨rfl, rfl, rfl⟩
theorem cmpAbx (w : Word) : Statement (.cmpAbx w) := ⟨rfl, rfl, rfl⟩
theorem decAbx (w : Word) : Statement (.decAbx w) := ⟨rfl, rfl, rfl⟩
theorem unassignedDF : Statement (.unassignedDF) := ⟨rfl, rfl, rfl⟩
theorem cpxImm (v : Byte) : Statement (.cpxImm v) := ⟨rfl, rfl, rfl⟩
theorem sbcIzx (b : Byte) : Statement (.sbcIzx b) := ⟨rfl, rfl, rfl⟩
theorem unassignedE2 : Statement (.unassignedE2) := ⟨rfl, rfl, rfl⟩
theorem unassignedE3 : Statement (.unassignedE3) := ⟨rfl, rfl, rfl⟩
theorem cpxZp (b : Byte) : Statement (.cpxZp b) := ⟨rfl, rfl, rfl⟩
theorem sbcZp (b : Byte) : Statement (.sbcZp b) := ⟨rfl, rfl, rfl⟩
theorem incZp (b : Byte) : Statement (.incZp b) := ⟨rfl, rfl, rfl⟩
theorem unassignedE7 : Statement (.unassignedE7) := ⟨rfl, rfl, rfl⟩
theorem inx : Statement (.inx) := ⟨rfl, rfl, rfl⟩
theorem sbcImm (v : Byte) : Statement (.sbcImm v) := ⟨rfl, rfl, rfl⟩
theorem nop : Statement (.nop) := ⟨rfl, rfl, rfl⟩
theorem unassignedEB : Statement (.unassignedEB) := ⟨rfl, rfl, rfl⟩
theorem cpxAbs (w : Word) : Statement (.cpxAbs w) := ⟨rfl, rfl, rfl⟩
theorem sbcAbs (w : Word) : Statement (.sbcAbs w) := ⟨rfl, rfl, rfl⟩
theorem incAbs (w : Word) : Statement (.incAbs w) := ⟨rfl, rfl, rfl⟩
theorem unassignedEF : Statement (.unassignedEF) := ⟨rfl, rfl, rfl⟩
theorem beq (b : Byte) : Statement (.beq b) := ⟨rfl, rfl, rfl⟩
theorem sbcIzy (b : Byte) : Statement (.sbcIzy b) := ⟨rfl, rfl, rfl⟩
theorem unassignedF2 : Statement (.unassignedF2) := ⟨rfl, rfl, rfl⟩
theorem unassignedF3 : Statement (.unassignedF3) := ⟨rfl, rfl, rfl⟩
theorem unassignedF4 : Statement (.unassignedF4) := ⟨rfl, rfl, rfl⟩
theorem sbcZpx (b : Byte) : Statement (.sbcZpx b) := ⟨rfl, rfl, rfl⟩
theorem incZpx (b : Byte) : Statement (.incZpx b) := ⟨rfl, rfl, rfl⟩
theorem unassignedF7 : Statement (.unassignedF7) := ⟨rfl, rfl, rfl⟩
theorem sed : Statement (.sed) := ⟨rfl, rfl, rfl⟩
theorem sbcAby (w : Word) : Statement (.sbcAby w) := ⟨rfl, rfl, rfl⟩
theorem unassignedFA : Statement (.unassignedFA) := ⟨rfl, rfl, rfl⟩
theorem unassignedFB : Statement (.unassignedFB) := ⟨rfl, rfl, rfl⟩
theorem unassignedFC : Statement (.unassignedFC) := ⟨rfl, rfl, rfl⟩
theorem sbcAbx (w : Word) : Statement (.sbcAbx w) := ⟨rfl, rfl, rfl⟩
theorem incAbx (w : Word) : Statement (.incAbx w) := ⟨rfl, rfl, rfl⟩
theorem unassignedFF : Statement (.unassignedFF) := ⟨rfl, rfl, rfl⟩

end Sys2Proof.Laws.RowAgrees
end

