-- ==== Sys2Proof/Laws/Words.lean ====
section
/-! SUPPORT. Bytes and words as numbers (R6): the halves of a word, the extensions, a page-1 address, wrapping by
one. -/

namespace Sys2Proof

theorem highByte_toNat (w : Word) : (highByte w).toNat = w.toNat / 256 := by
  have := w.isLt
  simp [highByte, Nat.shiftRight_eq_div_pow]
  omega

theorem lowByte_toNat (w : Word) : (lowByte w).toNat = w.toNat % 256 := by simp [lowByte]

theorem joinBytes_toNat (h l : Byte) : (joinBytes h l).toNat = h.toNat * 256 + l.toNat := by
  rw [joinBytes, BitVec.toNat_append, ← Nat.shiftLeft_add_eq_or_of_lt l.isLt, Nat.shiftLeft_eq]

theorem zeroPage_toNat (b : Byte) : (zeroPage b).toNat = b.toNat := by
  simp [zeroPage]
  omega

theorem signExtend_toInt (b : Byte) : (signExtend b).toInt = b.toInt := by
  simp [signExtend, BitVec.toInt_signExtend_of_le]

theorem joinBytes_split (w : Word) : joinBytes (highByte w) (lowByte w) = w := by
  apply BitVec.eq_of_toNat_eq
  rw [joinBytes_toNat, highByte_toNat, lowByte_toNat]
  omega

theorem lowByte_joinBytes (h l : Byte) : lowByte (joinBytes h l) = l := by
  apply BitVec.eq_of_toNat_eq
  have := l.isLt
  rw [lowByte_toNat, joinBytes_toNat]
  omega

theorem highByte_joinBytes (h l : Byte) : highByte (joinBytes h l) = h := by
  apply BitVec.eq_of_toNat_eq
  have := l.isLt
  rw [highByte_toNat, joinBytes_toNat]
  omega

/-- The two pages of R6's page-cross test, as numbers. -/
theorem highByte_eq_iff (a b : Word) : highByte a = highByte b ↔ a.toNat / 256 = b.toNat / 256 := by
  rw [BitVec.toNat_eq, highByte_toNat, highByte_toNat]

theorem highByte_bne (a b : Word) : (highByte a != highByte b) = decide (a.toNat / 256 ≠ b.toNat / 256) := by
  rw [Bool.eq_iff_iff]
  simp [highByte_eq_iff]

theorem byte_pred_toNat (x : Byte) : (x - 1#8).toNat = (x.toNat + 255) % 256 := by
  have := x.isLt
  simp [BitVec.toNat_sub]
  omega

theorem byte_succ_toNat (x : Byte) : (x + 1#8).toNat = (x.toNat + 1) % 256 := by simp [BitVec.toNat_add]

theorem word_toNat_ne {a b : Word} (h : a ≠ b) : a.toNat ≠ b.toNat := fun e => h (BitVec.eq_of_toNat_eq e)

/-- Bit 7 of a byte as a number. -/
theorem byte_bit7 (v : Byte) : v[7] = decide (128 ≤ v.toNat) := by
  have := v.isLt
  rw [← BitVec.getLsbD_eq_getElem]
  simp only [BitVec.getLsbD, Nat.testBit, Nat.shiftRight_eq_div_pow]
  rcases Nat.lt_or_ge v.toNat 128 with h | h
  · have : v.toNat / 128 = 0 := by omega
    simp [this, h]
  · have : v.toNat / 128 = 1 := by omega
    simp [this, h]

namespace Machine

/-- A stack address lies in page 1 (R23). -/
theorem stackAddr_toNat (b : Byte) : (stackAddr b).toNat = 256 + b.toNat := by
  have := b.isLt
  simp [stackAddr]
  omega

theorem stackAddr_ne {a b : Byte} (h : a ≠ b) : stackAddr a ≠ stackAddr b := by
  intro e
  have := congrArg BitVec.toNat e
  simp only [stackAddr_toNat] at this
  exact h (BitVec.eq_of_toNat_eq (by omega))

end Machine

end Sys2Proof
end

