-- ==== Sys2Proof/Laws/Decode.lean ====
section
/-! SUPPORT. What the decoder answers, opcode by opcode (R80 to R84). -/

namespace Sys2Proof

set_option maxHeartbeats 1000000 in
/-- The 256 decoder entries: the opcode, the operand bytes, BRK alone at 0x00, at most two operand bytes. -/
theorem decodeParts_ofNat (n : Nat) (hn : n < 256) (b1 b2 : Byte) :
    (decodeParts (BitVec.ofNat 8 n) b1 b2).opcode = BitVec.ofNat 8 n ∧
    ((decodeParts (BitVec.ofNat 8 n) b1 b2).operand.bytes = if n = 0 then [0x00#8] else
      match (table (BitVec.ofNat 8 n)).mode.operandBytes with
      | 0 => []
      | 1 => [b1]
      | _ => [lowByte (joinBytes b2 b1), highByte (joinBytes b2 b1)]) ∧
    (decodeParts (BitVec.ofNat 8 n) b1 b2 = .brk ↔ n = 0) ∧
    (table (BitVec.ofNat 8 n)).mode.operandBytes ≤ 2 ∧
    ((table (BitVec.ofNat 8 n)).handler = .brk ↔ n = 0) := by
  interval_cases n <;> refine ⟨rfl, rfl, ?_, ?_, ?_⟩ <;> first
    | decide
    | exact ⟨fun _ => rfl, fun _ => rfl⟩
    | exact ⟨fun h => (nomatch h), fun h => (nomatch h)⟩

theorem decodeParts_spec (op b1 b2 : Byte) :
    (decodeParts op b1 b2).opcode = op ∧
    ((decodeParts op b1 b2).operand.bytes = if op.toNat = 0 then [0x00#8] else
      match (table op).mode.operandBytes with
      | 0 => []
      | 1 => [b1]
      | _ => [b1, b2]) ∧
    (decodeParts op b1 b2 = .brk ↔ op = 0#8) ∧ (table op).mode.operandBytes ≤ 2 ∧
    ((table op).handler = .brk ↔ op = 0#8) := by
  have h := decodeParts_ofNat op.toNat op.isLt b1 b2
  have e : BitVec.ofNat 8 op.toNat = op := by simp
  rw [e, lowByte_joinBytes, highByte_joinBytes] at h
  simpa [BitVec.toNat_eq] using h

/-- When decoding answers: the operand bytes are the first ones after the opcode. -/
theorem decode_iff (op : Byte) (tail rest : List Byte) (i : Instr) :
    decode (op :: tail) = .ok (i, rest) ↔
      ∃ pre, tail = pre ++ rest ∧ pre.length = (table op).mode.operandBytes ∧
        i = decodeParts op (pre.getD 0 0#8) (pre.getD 1 0#8) := by
  have h2 := (decodeParts_spec op 0 0).2.2.2.1
  generalize hn : (table op).mode.operandBytes = n at h2
  simp only [decode, hn]
  match n, h2 with
  | 0, _ =>
    simp only [List.length_eq_zero_iff]
    constructor
    · intro h
      cases h
      exact ⟨[], rfl, rfl, rfl⟩
    · rintro ⟨_, rfl, rfl, rfl⟩
      rfl
  | 1, _ =>
    cases tail with
    | nil => simp
    | cons b t =>
      simp only [List.length_eq_one_iff]
      constructor
      · intro h
        cases h
        exact ⟨[b], rfl, ⟨b, rfl⟩, rfl⟩
      · rintro ⟨_, h, ⟨c, rfl⟩, rfl⟩
        cases h
        rfl
  | 2, _ =>
    match tail with
    | [] => simp
    | [b] =>
      simp only [List.length_eq_two]
      constructor
      · intro h
        cases h
      · rintro ⟨_, h, ⟨c, d, rfl⟩, rfl⟩
        cases h
    | b :: c :: t =>
      simp only [List.length_eq_two]
      constructor
      · intro h
        cases h
        exact ⟨[b, c], rfl, ⟨b, c, rfl⟩, rfl⟩
      · rintro ⟨_, h, ⟨c, d, rfl⟩, rfl⟩
        cases h
        rfl

/-- When the bytes end too early. -/
theorem decode_truncated (op : Byte) (tail : List Byte) (h : tail.length < (table op).mode.operandBytes) :
    decode (op :: tail) = .error (.truncated op) := by
  have h2 := (decodeParts_spec op 0 0).2.2.2.1
  generalize hn : (table op).mode.operandBytes = n at h2 h
  simp only [decode, hn]
  match n, tail, h2, h with
  | 1, [], _, _ => rfl
  | 2, [], _, _ => rfl
  | 2, [a], _, _ => rfl
  | 2, _ :: _ :: _, _, h => simp at h
  | 1, _ :: _, _, h => simp at h

end Sys2Proof
end

