-- ==== Sys2Proof/Laws/Operands.lean ====
section
/-! SUPPORT. What a resolver, the operand read and the write-back can do. -/

namespace Sys2Proof.Machine

section readZeroPagePointer
@[simp] theorem readZeroPagePointer_a (t : Byte) (s : State) : (readZeroPagePointer t s).2.a = s.a := by simp [readZeroPagePointer]
@[simp] theorem readZeroPagePointer_x (t : Byte) (s : State) : (readZeroPagePointer t s).2.x = s.x := by simp [readZeroPagePointer]
@[simp] theorem readZeroPagePointer_y (t : Byte) (s : State) : (readZeroPagePointer t s).2.y = s.y := by simp [readZeroPagePointer]
@[simp] theorem readZeroPagePointer_sp (t : Byte) (s : State) : (readZeroPagePointer t s).2.sp = s.sp := by simp [readZeroPagePointer]
@[simp] theorem readZeroPagePointer_pc (t : Byte) (s : State) : (readZeroPagePointer t s).2.pc = s.pc := by simp [readZeroPagePointer]
@[simp] theorem readZeroPagePointer_p (t : Byte) (s : State) : (readZeroPagePointer t s).2.p = s.p := by simp [readZeroPagePointer]
@[simp] theorem readZeroPagePointer_opcode (t : Byte) (s : State) : (readZeroPagePointer t s).2.opcode = s.opcode := by simp [readZeroPagePointer]
@[simp] theorem readZeroPagePointer_fetched (t : Byte) (s : State) : (readZeroPagePointer t s).2.fetched = s.fetched := by simp [readZeroPagePointer]
@[simp] theorem readZeroPagePointer_addrAbs (t : Byte) (s : State) : (readZeroPagePointer t s).2.addrAbs = s.addrAbs := by simp [readZeroPagePointer]
@[simp] theorem readZeroPagePointer_addrRel (t : Byte) (s : State) : (readZeroPagePointer t s).2.addrRel = s.addrRel := by simp [readZeroPagePointer]
@[simp] theorem readZeroPagePointer_temp (t : Byte) (s : State) : (readZeroPagePointer t s).2.temp = s.temp := by simp [readZeroPagePointer]
@[simp] theorem readZeroPagePointer_cycles (t : Byte) (s : State) : (readZeroPagePointer t s).2.cycles = s.cycles := by simp [readZeroPagePointer]
@[simp] theorem readZeroPagePointer_nmiPending (t : Byte) (s : State) : (readZeroPagePointer t s).2.nmiPending = s.nmiPending := by simp [readZeroPagePointer]
@[simp] theorem readZeroPagePointer_mem (t : Byte) (s : State) : (readZeroPagePointer t s).2.mem = s.mem := by simp [readZeroPagePointer]
@[simp] theorem readZeroPagePointer_busMap (t : Byte) (s : State) : (readZeroPagePointer t s).2.busMap = s.busMap := by simp [readZeroPagePointer]
@[simp] theorem readZeroPagePointer_hostCalls (t : Byte) (s : State) : (readZeroPagePointer t s).2.hostCalls = s.hostCalls := by simp [readZeroPagePointer]
@[simp] theorem readZeroPagePointer_target (t : Byte) (s : State) (a' : Word) : (readZeroPagePointer t s).2.target a' = s.target a' := by simp [State.target]
end readZeroPagePointer

section readIndirect
@[simp] theorem readIndirect_a (w : Word) (s : State) : (readIndirect w s).2.a = s.a := by simp [readIndirect]
@[simp] theorem readIndirect_x (w : Word) (s : State) : (readIndirect w s).2.x = s.x := by simp [readIndirect]
@[simp] theorem readIndirect_y (w : Word) (s : State) : (readIndirect w s).2.y = s.y := by simp [readIndirect]
@[simp] theorem readIndirect_sp (w : Word) (s : State) : (readIndirect w s).2.sp = s.sp := by simp [readIndirect]
@[simp] theorem readIndirect_pc (w : Word) (s : State) : (readIndirect w s).2.pc = s.pc := by simp [readIndirect]
@[simp] theorem readIndirect_p (w : Word) (s : State) : (readIndirect w s).2.p = s.p := by simp [readIndirect]
@[simp] theorem readIndirect_opcode (w : Word) (s : State) : (readIndirect w s).2.opcode = s.opcode := by simp [readIndirect]
@[simp] theorem readIndirect_fetched (w : Word) (s : State) : (readIndirect w s).2.fetched = s.fetched := by simp [readIndirect]
@[simp] theorem readIndirect_addrAbs (w : Word) (s : State) : (readIndirect w s).2.addrAbs = s.addrAbs := by simp [readIndirect]
@[simp] theorem readIndirect_addrRel (w : Word) (s : State) : (readIndirect w s).2.addrRel = s.addrRel := by simp [readIndirect]
@[simp] theorem readIndirect_temp (w : Word) (s : State) : (readIndirect w s).2.temp = s.temp := by simp [readIndirect]
@[simp] theorem readIndirect_cycles (w : Word) (s : State) : (readIndirect w s).2.cycles = s.cycles := by simp [readIndirect]
@[simp] theorem readIndirect_nmiPending (w : Word) (s : State) : (readIndirect w s).2.nmiPending = s.nmiPending := by simp [readIndirect]
@[simp] theorem readIndirect_mem (w : Word) (s : State) : (readIndirect w s).2.mem = s.mem := by simp [readIndirect]
@[simp] theorem readIndirect_busMap (w : Word) (s : State) : (readIndirect w s).2.busMap = s.busMap := by simp [readIndirect]
@[simp] theorem readIndirect_hostCalls (w : Word) (s : State) : (readIndirect w s).2.hostCalls = s.hostCalls := by simp [readIndirect]
@[simp] theorem readIndirect_target (w : Word) (s : State) (a' : Word) : (readIndirect w s).2.target a' = s.target a' := by simp [State.target]
end readIndirect

section resolve
@[simp] theorem resolve_a (o : Operand) (s : State) : (resolve o s).2.a = s.a := by cases o <;> simp [resolve]
@[simp] theorem resolve_x (o : Operand) (s : State) : (resolve o s).2.x = s.x := by cases o <;> simp [resolve]
@[simp] theorem resolve_y (o : Operand) (s : State) : (resolve o s).2.y = s.y := by cases o <;> simp [resolve]
@[simp] theorem resolve_sp (o : Operand) (s : State) : (resolve o s).2.sp = s.sp := by cases o <;> simp [resolve]
@[simp] theorem resolve_p (o : Operand) (s : State) : (resolve o s).2.p = s.p := by cases o <;> simp [resolve]
@[simp] theorem resolve_opcode (o : Operand) (s : State) : (resolve o s).2.opcode = s.opcode := by cases o <;> simp [resolve]
@[simp] theorem resolve_temp (o : Operand) (s : State) : (resolve o s).2.temp = s.temp := by cases o <;> simp [resolve]
@[simp] theorem resolve_cycles (o : Operand) (s : State) : (resolve o s).2.cycles = s.cycles := by cases o <;> simp [resolve]
@[simp] theorem resolve_nmiPending (o : Operand) (s : State) : (resolve o s).2.nmiPending = s.nmiPending := by cases o <;> simp [resolve]
@[simp] theorem resolve_mem (o : Operand) (s : State) : (resolve o s).2.mem = s.mem := by cases o <;> simp [resolve]
@[simp] theorem resolve_busMap (o : Operand) (s : State) : (resolve o s).2.busMap = s.busMap := by cases o <;> simp [resolve]
@[simp] theorem resolve_hostCalls (o : Operand) (s : State) : (resolve o s).2.hostCalls = s.hostCalls := by cases o <;> simp [resolve]
@[simp] theorem resolve_target (o : Operand) (s : State) (a' : Word) : (resolve o s).2.target a' = s.target a' := by simp [State.target]
end resolve

section fetchOperand
@[simp] theorem fetchOperand_a (o : Operand) (s : State) : (fetchOperand o s).2.a = s.a := by cases o <;> simp [fetchOperand]
@[simp] theorem fetchOperand_x (o : Operand) (s : State) : (fetchOperand o s).2.x = s.x := by cases o <;> simp [fetchOperand]
@[simp] theorem fetchOperand_y (o : Operand) (s : State) : (fetchOperand o s).2.y = s.y := by cases o <;> simp [fetchOperand]
@[simp] theorem fetchOperand_sp (o : Operand) (s : State) : (fetchOperand o s).2.sp = s.sp := by cases o <;> simp [fetchOperand]
@[simp] theorem fetchOperand_pc (o : Operand) (s : State) : (fetchOperand o s).2.pc = s.pc := by cases o <;> simp [fetchOperand]
@[simp] theorem fetchOperand_p (o : Operand) (s : State) : (fetchOperand o s).2.p = s.p := by cases o <;> simp [fetchOperand]
@[simp] theorem fetchOperand_opcode (o : Operand) (s : State) : (fetchOperand o s).2.opcode = s.opcode := by cases o <;> simp [fetchOperand]
@[simp] theorem fetchOperand_addrAbs (o : Operand) (s : State) : (fetchOperand o s).2.addrAbs = s.addrAbs := by cases o <;> simp [fetchOperand]
@[simp] theorem fetchOperand_addrRel (o : Operand) (s : State) : (fetchOperand o s).2.addrRel = s.addrRel := by cases o <;> simp [fetchOperand]
@[simp] theorem fetchOperand_temp (o : Operand) (s : State) : (fetchOperand o s).2.temp = s.temp := by cases o <;> simp [fetchOperand]
@[simp] theorem fetchOperand_cycles (o : Operand) (s : State) : (fetchOperand o s).2.cycles = s.cycles := by cases o <;> simp [fetchOperand]
@[simp] theorem fetchOperand_nmiPending (o : Operand) (s : State) : (fetchOperand o s).2.nmiPending = s.nmiPending := by cases o <;> simp [fetchOperand]
@[simp] theorem fetchOperand_mem (o : Operand) (s : State) : (fetchOperand o s).2.mem = s.mem := by cases o <;> simp [fetchOperand]
@[simp] theorem fetchOperand_busMap (o : Operand) (s : State) : (fetchOperand o s).2.busMap = s.busMap := by cases o <;> simp [fetchOperand]
@[simp] theorem fetchOperand_hostCalls (o : Operand) (s : State) : (fetchOperand o s).2.hostCalls = s.hostCalls := by cases o <;> simp [fetchOperand]
@[simp] theorem fetchOperand_target (o : Operand) (s : State) (a' : Word) : (fetchOperand o s).2.target a' = s.target a' := by simp [State.target]
end fetchOperand

section writeBack
@[simp] theorem writeBack_x (o : Operand) (v : Byte) (s : State) : (writeBack o v s).x = s.x := by cases o <;> simp [writeBack]
@[simp] theorem writeBack_y (o : Operand) (v : Byte) (s : State) : (writeBack o v s).y = s.y := by cases o <;> simp [writeBack]
@[simp] theorem writeBack_sp (o : Operand) (v : Byte) (s : State) : (writeBack o v s).sp = s.sp := by cases o <;> simp [writeBack]
@[simp] theorem writeBack_pc (o : Operand) (v : Byte) (s : State) : (writeBack o v s).pc = s.pc := by cases o <;> simp [writeBack]
@[simp] theorem writeBack_p (o : Operand) (v : Byte) (s : State) : (writeBack o v s).p = s.p := by cases o <;> simp [writeBack]
@[simp] theorem writeBack_opcode (o : Operand) (v : Byte) (s : State) : (writeBack o v s).opcode = s.opcode := by cases o <;> simp [writeBack]
@[simp] theorem writeBack_fetched (o : Operand) (v : Byte) (s : State) : (writeBack o v s).fetched = s.fetched := by cases o <;> simp [writeBack]
@[simp] theorem writeBack_addrAbs (o : Operand) (v : Byte) (s : State) : (writeBack o v s).addrAbs = s.addrAbs := by cases o <;> simp [writeBack]
@[simp] theorem writeBack_addrRel (o : Operand) (v : Byte) (s : State) : (writeBack o v s).addrRel = s.addrRel := by cases o <;> simp [writeBack]
@[simp] theorem writeBack_temp (o : Operand) (v : Byte) (s : State) : (writeBack o v s).temp = s.temp := by cases o <;> simp [writeBack]
@[simp] theorem writeBack_cycles (o : Operand) (v : Byte) (s : State) : (writeBack o v s).cycles = s.cycles := by cases o <;> simp [writeBack]
@[simp] theorem writeBack_nmiPending (o : Operand) (v : Byte) (s : State) : (writeBack o v s).nmiPending = s.nmiPending := by cases o <;> simp [writeBack]
@[simp] theorem writeBack_busMap (o : Operand) (v : Byte) (s : State) : (writeBack o v s).busMap = s.busMap := by cases o <;> simp [writeBack]
@[simp] theorem writeBack_hostCalls (o : Operand) (v : Byte) (s : State) : (writeBack o v s).hostCalls = s.hostCalls := by cases o <;> simp [writeBack]
@[simp] theorem writeBack_target (o : Operand) (v : Byte) (s : State) (a' : Word) : (writeBack o v s).target a' = s.target a' := by simp [State.target]
end writeBack

section steps
variable {s t : State} (h : BusSteps s t)
include h

theorem writeBack_steps (o : Operand) (v : Byte) : BusSteps s (writeBack o v t) := by
  cases o <;> first | exact h.write _ _ | exact h.core rfl

theorem readZeroPagePointer_steps (b : Byte) : BusSteps s (readZeroPagePointer b t).2 :=
  (h.read (zeroPage b)).read (zeroPage (b + 1#8))

theorem readIndirect_steps (w : Word) : BusSteps s (readIndirect w t).2 :=
  (h.read w).read (joinBytes (highByte w) (lowByte w + 1#8))

theorem resolve_steps (o : Operand) : BusSteps s (resolve o t).2 := by
  cases o with
  | ind w => exact (readIndirect_steps (h.core (u := t.setPc (t.pc + 2#16)) rfl) w).core rfl
  | izx b => exact (readZeroPagePointer_steps (h.core (u := t.setPc (t.pc + 1#16)) rfl) (b + t.x)).core rfl
  | izy b => exact (readZeroPagePointer_steps (h.core (u := t.setPc (t.pc + 1#16)) rfl) b).core rfl
  | _ => exact h.core rfl

theorem fetchOperand_steps (o : Operand) : BusSteps s (fetchOperand o t).2 := by
  cases o <;> first | exact (h.read t.addrAbs).core rfl | exact h.core rfl

end steps

/-- The operand read leaves the byte it answers in `fetched` (R37, R111). -/
theorem fetchOperand_fetched (o : Operand) (s : State) : (fetchOperand o s).2.fetched = (fetchOperand o s).1 := by
  cases o <;> rfl

end Sys2Proof.Machine
end

