-- ==== Sys2Proof/Laws/Exec.lean ====
section
/-! SUPPORT. Every arm of exec is the engine's body (R262) with its row of the dispatch table. -/

namespace Sys2Proof.Machine

/-- The function of each handler of the dispatch table (R83). -/
def handlerFn : Handler → HandlerFn
  | .adc => opAdc
  | .and => opAnd
  | .asl => opAsl
  | .bcc => opBcc
  | .bcs => opBcs
  | .beq => opBeq
  | .bit => opBit
  | .bmi => opBmi
  | .bne => opBne
  | .bpl => opBpl
  | .brk => opBrk
  | .bvc => opBvc
  | .bvs => opBvs
  | .clc => opClc
  | .cld => opCld
  | .cli => opCli
  | .clv => opClv
  | .cmp => opCmp
  | .cpx => opCpx
  | .cpy => opCpy
  | .dec => opDec
  | .dex => opDex
  | .dey => opDey
  | .eor => opEor
  | .inc => opInc
  | .inx => opInx
  | .iny => opIny
  | .jmp => opJmp
  | .jsr => opJsr
  | .lda => opLda
  | .ldx => opLdx
  | .ldy => opLdy
  | .lsr => opLsr
  | .nop => opNop
  | .ora => opOra
  | .pha => opPha
  | .php => opPhp
  | .pla => opPla
  | .plp => opPlp
  | .rol => opRol
  | .ror => opRor
  | .rti => opRti
  | .rts => opRts
  | .sbc => opSbc
  | .sec => opSec
  | .sed => opSed
  | .sei => opSei
  | .sta => opSta
  | .stx => opStx
  | .sty => opSty
  | .tax => opTax
  | .tay => opTay
  | .tsx => opTsx
  | .txa => opTxa
  | .txs => opTxs
  | .tya => opTya
  | .xxx => opXxx

/-- The meaning of every instruction, from its row: base cost, operand, handler. -/
theorem exec_eq_runInstr (i : Instr) (s : State) :
    exec i s = runInstr i.entry.base i.operand (handlerFn i.handler) s := by
  cases i <;> rfl

/-- Every instruction answers a next state: its handler's, with the page-cross cycle charged. -/
theorem exec_next (i : Instr) (s : State) :
    exec i s = .next ((handlerFn i.handler i.operand (atHandler i s)).2.setCycles
      ((handlerFn i.handler i.operand (atHandler i s)).2.cycles +
        if pageCrossed i s && (handlerFn i.handler i.operand (atHandler i s)).1 then 1#8 else 0#8)) := by
  rw [exec_eq_runInstr]; rfl

/-- The row of the table agrees with the instruction (R83, R86), for every instruction. -/
theorem rowAgrees (i : Instr) : Laws.RowAgrees.Statement i := by cases i <;> exact ⟨rfl, rfl, rfl⟩

/-- Every instruction is well-formed. -/
theorem wellFormed_all (i : Instr) : i.wellFormed = true := (rowAgrees i).2.2

/-! What the handler starts from. -/

theorem atHandler_pc (i : Instr) (s : State) :
    (atHandler i s).pc = s.pc + BitVec.ofNat 16 i.operand.mode.operandBytes := by
  cases h : i.operand <;> simp [atHandler, resolve, h, Operand.mode, Mode.operandBytes]

theorem atHandler_addrRel {i : Instr} {s : State} (h : i.operand.mode ≠ .rel) :
    (atHandler i s).addrRel = s.addrRel := by
  cases e : i.operand <;> simp_all [atHandler, resolve, Operand.mode]

theorem atHandler_addrAbs {i : Instr} {s : State} (h : i.operand.mode = .imp ∨ i.operand.mode = .rel) :
    (atHandler i s).addrAbs = s.addrAbs := by
  cases e : i.operand <;> simp_all [atHandler, resolve, Operand.mode]

theorem atHandler_fetched {i : Instr} {s : State} :
    (atHandler i s).fetched = if i.operand = .imp then s.a else s.fetched := by
  cases e : i.operand <;> simp_all [atHandler, resolve]

theorem atHandler_steps (i : Instr) (s : State) : BusSteps s (atHandler i s) :=
  resolve_steps ((BusSteps.refl (s := s)).core (u := s.setCycles i.entry.base) rfl) i.operand

theorem pageCrossed_mode {i : Instr} {s : State} (h : pageCrossed i s = true) :
    i.operand.mode = .abx ∨ i.operand.mode = .aby ∨ i.operand.mode = .izy := by
  cases e : i.operand <;> simp_all [pageCrossed, resolve, Operand.mode]

section atHandler
variable (i : Instr) (s : State)
@[simp] theorem atHandler_a : (atHandler i s).a = s.a := by simp [atHandler]
@[simp] theorem atHandler_x : (atHandler i s).x = s.x := by simp [atHandler]
@[simp] theorem atHandler_y : (atHandler i s).y = s.y := by simp [atHandler]
@[simp] theorem atHandler_sp : (atHandler i s).sp = s.sp := by simp [atHandler]
@[simp] theorem atHandler_p : (atHandler i s).p = s.p := by simp [atHandler]
@[simp] theorem atHandler_opcode : (atHandler i s).opcode = s.opcode := by simp [atHandler]
@[simp] theorem atHandler_temp : (atHandler i s).temp = s.temp := by simp [atHandler]
@[simp] theorem atHandler_nmiPending : (atHandler i s).nmiPending = s.nmiPending := by simp [atHandler]
@[simp] theorem atHandler_mem : (atHandler i s).mem = s.mem := by simp [atHandler]
@[simp] theorem atHandler_busMap : (atHandler i s).busMap = s.busMap := by simp [atHandler]
@[simp] theorem atHandler_hostCalls : (atHandler i s).hostCalls = s.hostCalls := by simp [atHandler]
@[simp] theorem atHandler_cycles : (atHandler i s).cycles = i.entry.base := by simp [atHandler]
@[simp] theorem atHandler_target (a : Word) : (atHandler i s).target a = s.target a := by simp [atHandler]
end atHandler

/-! After the operand read. -/

section operandRead
variable (i : Instr) (s : State)
@[simp] theorem operandRead_a : (operandRead i s).2.a = s.a := by simp [operandRead]
@[simp] theorem operandRead_x : (operandRead i s).2.x = s.x := by simp [operandRead]
@[simp] theorem operandRead_y : (operandRead i s).2.y = s.y := by simp [operandRead]
@[simp] theorem operandRead_sp : (operandRead i s).2.sp = s.sp := by simp [operandRead]
@[simp] theorem operandRead_p : (operandRead i s).2.p = s.p := by simp [operandRead]
@[simp] theorem operandRead_opcode : (operandRead i s).2.opcode = s.opcode := by simp [operandRead]
@[simp] theorem operandRead_temp : (operandRead i s).2.temp = s.temp := by simp [operandRead]
@[simp] theorem operandRead_nmiPending : (operandRead i s).2.nmiPending = s.nmiPending := by simp [operandRead]
@[simp] theorem operandRead_mem : (operandRead i s).2.mem = s.mem := by simp [operandRead]
@[simp] theorem operandRead_busMap : (operandRead i s).2.busMap = s.busMap := by simp [operandRead]
@[simp] theorem operandRead_hostCalls : (operandRead i s).2.hostCalls = s.hostCalls := by simp [operandRead]
@[simp] theorem operandRead_cycles : (operandRead i s).2.cycles = i.entry.base := by simp [operandRead]
@[simp] theorem operandRead_target (a : Word) : (operandRead i s).2.target a = s.target a := by simp [operandRead]
@[simp] theorem operandRead_pc : (operandRead i s).2.pc = (atHandler i s).pc := by simp [operandRead]
@[simp] theorem operandRead_addrAbs : (operandRead i s).2.addrAbs = (atHandler i s).addrAbs := by simp [operandRead]
@[simp] theorem operandRead_addrRel : (operandRead i s).2.addrRel = (atHandler i s).addrRel := by simp [operandRead]
@[simp] theorem operandRead_fetched : (operandRead i s).2.fetched = (operandRead i s).1 :=
  fetchOperand_fetched i.operand (atHandler i s)
end operandRead

end Sys2Proof.Machine
end

