-- ==== Sys2Proof/Laws/Handlers.lean ====
section
/-! SUPPORT. What the bodies shared by several handlers leave alone, and what every handler does to the bus and never
writes. -/

namespace Sys2Proof.Machine

section addToA
variable (m : Byte) (s : State)
@[simp] theorem addToA_x : (addToA m s).x = s.x := rfl
@[simp] theorem addToA_y : (addToA m s).y = s.y := rfl
@[simp] theorem addToA_sp : (addToA m s).sp = s.sp := rfl
@[simp] theorem addToA_pc : (addToA m s).pc = s.pc := rfl
@[simp] theorem addToA_opcode : (addToA m s).opcode = s.opcode := rfl
@[simp] theorem addToA_fetched : (addToA m s).fetched = s.fetched := rfl
@[simp] theorem addToA_addrAbs : (addToA m s).addrAbs = s.addrAbs := rfl
@[simp] theorem addToA_addrRel : (addToA m s).addrRel = s.addrRel := rfl
@[simp] theorem addToA_cycles : (addToA m s).cycles = s.cycles := rfl
@[simp] theorem addToA_nmiPending : (addToA m s).nmiPending = s.nmiPending := rfl
@[simp] theorem addToA_mem : (addToA m s).mem = s.mem := rfl
@[simp] theorem addToA_busMap : (addToA m s).busMap = s.busMap := rfl
@[simp] theorem addToA_busLog : (addToA m s).busLog = s.busLog := rfl
@[simp] theorem addToA_hostCalls : (addToA m s).hostCalls = s.hostCalls := rfl
end addToA

section logicToA
variable (v : Byte) (s : State)
@[simp] theorem logicToA_x : (logicToA v s).x = s.x := rfl
@[simp] theorem logicToA_y : (logicToA v s).y = s.y := rfl
@[simp] theorem logicToA_sp : (logicToA v s).sp = s.sp := rfl
@[simp] theorem logicToA_pc : (logicToA v s).pc = s.pc := rfl
@[simp] theorem logicToA_opcode : (logicToA v s).opcode = s.opcode := rfl
@[simp] theorem logicToA_fetched : (logicToA v s).fetched = s.fetched := rfl
@[simp] theorem logicToA_addrAbs : (logicToA v s).addrAbs = s.addrAbs := rfl
@[simp] theorem logicToA_addrRel : (logicToA v s).addrRel = s.addrRel := rfl
@[simp] theorem logicToA_temp : (logicToA v s).temp = s.temp := rfl
@[simp] theorem logicToA_cycles : (logicToA v s).cycles = s.cycles := rfl
@[simp] theorem logicToA_nmiPending : (logicToA v s).nmiPending = s.nmiPending := rfl
@[simp] theorem logicToA_mem : (logicToA v s).mem = s.mem := rfl
@[simp] theorem logicToA_busMap : (logicToA v s).busMap = s.busMap := rfl
@[simp] theorem logicToA_busLog : (logicToA v s).busLog = s.busLog := rfl
@[simp] theorem logicToA_hostCalls : (logicToA v s).hostCalls = s.hostCalls := rfl
end logicToA

section compareWith
variable (r m : Byte) (s : State)
@[simp] theorem compareWith_a : (compareWith r m s).a = s.a := rfl
@[simp] theorem compareWith_x : (compareWith r m s).x = s.x := rfl
@[simp] theorem compareWith_y : (compareWith r m s).y = s.y := rfl
@[simp] theorem compareWith_sp : (compareWith r m s).sp = s.sp := rfl
@[simp] theorem compareWith_pc : (compareWith r m s).pc = s.pc := rfl
@[simp] theorem compareWith_opcode : (compareWith r m s).opcode = s.opcode := rfl
@[simp] theorem compareWith_fetched : (compareWith r m s).fetched = s.fetched := rfl
@[simp] theorem compareWith_addrAbs : (compareWith r m s).addrAbs = s.addrAbs := rfl
@[simp] theorem compareWith_addrRel : (compareWith r m s).addrRel = s.addrRel := rfl
@[simp] theorem compareWith_cycles : (compareWith r m s).cycles = s.cycles := rfl
@[simp] theorem compareWith_nmiPending : (compareWith r m s).nmiPending = s.nmiPending := rfl
@[simp] theorem compareWith_mem : (compareWith r m s).mem = s.mem := rfl
@[simp] theorem compareWith_busMap : (compareWith r m s).busMap = s.busMap := rfl
@[simp] theorem compareWith_busLog : (compareWith r m s).busLog = s.busLog := rfl
@[simp] theorem compareWith_hostCalls : (compareWith r m s).hostCalls = s.hostCalls := rfl
end compareWith

section storeResult
variable (t : Word) (s : State)
@[simp] theorem storeResult_a : (storeResult t s).a = s.a := by simp [storeResult]
@[simp] theorem storeResult_x : (storeResult t s).x = s.x := by simp [storeResult]
@[simp] theorem storeResult_y : (storeResult t s).y = s.y := by simp [storeResult]
@[simp] theorem storeResult_sp : (storeResult t s).sp = s.sp := by simp [storeResult]
@[simp] theorem storeResult_pc : (storeResult t s).pc = s.pc := by simp [storeResult]
@[simp] theorem storeResult_opcode : (storeResult t s).opcode = s.opcode := by simp [storeResult]
@[simp] theorem storeResult_fetched : (storeResult t s).fetched = s.fetched := by simp [storeResult]
@[simp] theorem storeResult_addrAbs : (storeResult t s).addrAbs = s.addrAbs := by simp [storeResult]
@[simp] theorem storeResult_addrRel : (storeResult t s).addrRel = s.addrRel := by simp [storeResult]
@[simp] theorem storeResult_cycles : (storeResult t s).cycles = s.cycles := by simp [storeResult]
@[simp] theorem storeResult_nmiPending : (storeResult t s).nmiPending = s.nmiPending := by simp [storeResult]
@[simp] theorem storeResult_busMap : (storeResult t s).busMap = s.busMap := by simp [storeResult]
@[simp] theorem storeResult_hostCalls : (storeResult t s).hostCalls = s.hostCalls := by simp [storeResult]
@[simp] theorem storeResult_p : (storeResult t s).p = withZN (t.setWidth 8) s.p := by simp [storeResult]
@[simp] theorem storeResult_temp : (storeResult t s).temp = t := by simp [storeResult]
end storeResult

section shiftTo
variable (o : Operand) (out : Bool) (t : Word) (s : State)
@[simp] theorem shiftTo_x : (shiftTo o out t s).x = s.x := by simp [shiftTo]
@[simp] theorem shiftTo_y : (shiftTo o out t s).y = s.y := by simp [shiftTo]
@[simp] theorem shiftTo_sp : (shiftTo o out t s).sp = s.sp := by simp [shiftTo]
@[simp] theorem shiftTo_pc : (shiftTo o out t s).pc = s.pc := by simp [shiftTo]
@[simp] theorem shiftTo_opcode : (shiftTo o out t s).opcode = s.opcode := by simp [shiftTo]
@[simp] theorem shiftTo_fetched : (shiftTo o out t s).fetched = s.fetched := by simp [shiftTo]
@[simp] theorem shiftTo_addrAbs : (shiftTo o out t s).addrAbs = s.addrAbs := by simp [shiftTo]
@[simp] theorem shiftTo_addrRel : (shiftTo o out t s).addrRel = s.addrRel := by simp [shiftTo]
@[simp] theorem shiftTo_cycles : (shiftTo o out t s).cycles = s.cycles := by simp [shiftTo]
@[simp] theorem shiftTo_nmiPending : (shiftTo o out t s).nmiPending = s.nmiPending := by simp [shiftTo]
@[simp] theorem shiftTo_busMap : (shiftTo o out t s).busMap = s.busMap := by simp [shiftTo]
@[simp] theorem shiftTo_hostCalls : (shiftTo o out t s).hostCalls = s.hostCalls := by simp [shiftTo]
@[simp] theorem shiftTo_p : (shiftTo o out t s).p = withShift out (t.setWidth 8) s.p := by simp [shiftTo]
@[simp] theorem shiftTo_temp : (shiftTo o out t s).temp = t := by simp [shiftTo]
end shiftTo

section branch
variable (c : Bool) (s : State)
@[simp] theorem branch_a : (branch c s).a = s.a := by cases c <;> rfl
@[simp] theorem branch_x : (branch c s).x = s.x := by cases c <;> rfl
@[simp] theorem branch_y : (branch c s).y = s.y := by cases c <;> rfl
@[simp] theorem branch_sp : (branch c s).sp = s.sp := by cases c <;> rfl
@[simp] theorem branch_p : (branch c s).p = s.p := by cases c <;> rfl
@[simp] theorem branch_opcode : (branch c s).opcode = s.opcode := by cases c <;> rfl
@[simp] theorem branch_fetched : (branch c s).fetched = s.fetched := by cases c <;> rfl
@[simp] theorem branch_addrRel : (branch c s).addrRel = s.addrRel := by cases c <;> rfl
@[simp] theorem branch_temp : (branch c s).temp = s.temp := by cases c <;> rfl
@[simp] theorem branch_nmiPending : (branch c s).nmiPending = s.nmiPending := by cases c <;> rfl
@[simp] theorem branch_mem : (branch c s).mem = s.mem := by cases c <;> rfl
@[simp] theorem branch_busMap : (branch c s).busMap = s.busMap := by cases c <;> rfl
@[simp] theorem branch_busLog : (branch c s).busLog = s.busLog := by cases c <;> rfl
@[simp] theorem branch_hostCalls : (branch c s).hostCalls = s.hostCalls := by cases c <;> rfl
end branch

section steps
variable {s t : State} (h : BusSteps s t)
include h

theorem storeResult_steps (r : Word) : BusSteps s (storeResult r t) :=
  ((h.core (u := t.setTemp r) rfl).write t.addrAbs (r.setWidth 8)).core rfl

theorem shiftTo_steps (o : Operand) (out : Bool) (r : Word) : BusSteps s (shiftTo o out r t) :=
  writeBack_steps (h.core (u := (t.setTemp r).setP (withShift out (r.setWidth 8) t.p)) rfl) o (r.setWidth 8)

end steps

/-- A write-back to memory leaves A alone (R174). -/
theorem writeBack_a {o : Operand} (v : Byte) (s : State) (h : o.mode ≠ .imp) : (writeBack o v s).a = s.a := by
  cases o <;> simp_all [writeBack, Operand.mode]

theorem shiftTo_a {o : Operand} (out : Bool) (t : Word) (s : State) (h : o.mode ≠ .imp) :
    (shiftTo o out t s).a = s.a := by
  rw [shiftTo, writeBack_a _ _ h]; rfl

/-- All a handler does to the bus is reads and writes (R62). -/
theorem handlerFn_steps (h : Handler) (o : Operand) (s : State) : BusSteps s (handlerFn h o s).2 := by
  have r : BusSteps s s := .refl
  have f : BusSteps s (fetchOperand o s).2 := fetchOperand_steps r o
  cases h
  case asl | lsr | rol | ror => exact shiftTo_steps f _ _ _
  case inc | dec => exact storeResult_steps f _
  case sta | stx | sty => exact r.write _ _
  case pha | php => exact push_steps r _
  case jsr => exact (pushWord_steps r _).core rfl
  case brk => exact enterInterrupt_steps r _ _
  case rti => exact returnFromInterrupt_steps r
  case pla | plp => exact (pull_steps r).core rfl
  case rts => exact (pullWord_steps r).core rfl
  case bcc | bcs | beq | bmi | bne | bpl | bvc | bvs =>
    simp only [handlerFn, opBcc, opBcs, opBeq, opBmi, opBne, opBpl, opBvc, opBvs]
    exact r.core (by simp)
  all_goals first
    | exact r.core rfl
    | exact f.core rfl

/-- What no handler writes: `opcode` (R36), the NMI latch (R42), the address map, the host's calls. -/
theorem handlerFn_outer (h : Handler) (o : Operand) (s : State) :
    (handlerFn h o s).2.opcode = s.opcode ∧ (handlerFn h o s).2.nmiPending = s.nmiPending ∧
      (handlerFn h o s).2.busMap = s.busMap ∧ (handlerFn h o s).2.hostCalls = s.hostCalls := by
  cases h <;> simp [handlerFn, opAdc, opSbc, opAnd, opOra, opEor, opBit, opCmp, opCpx, opCpy, opInc, opDec, opLda, opLdx,
    opLdy, opSta, opStx, opSty, opAsl, opLsr, opRol, opRor, opPha, opPhp, opPla, opPlp, opJmp, opJsr, opRts, opRti, opBrk,
    opClc, opCld, opCli, opClv, opSec, opSed, opSei, opTax, opTay, opTsx, opTxa, opTxs, opTya, opInx, opIny, opDex, opDey,
    opNop, opXxx, opBcc, opBcs, opBeq, opBmi, opBne, opBpl, opBvc, opBvs]

end Sys2Proof.Machine
end

