-- ==== Sys2Proof/Laws/Stack.lean ====
section
/-! SUPPORT. The stack, the pointer reads and the interrupt entry when what they touch is plain RAM, and the accesses
they make (R53, R56, R58, R121 to R123, R184, R306). -/

namespace Sys2Proof.Machine

/-- Two states with the same fields are one state. -/
theorem State.eq_of_fields {s t : State} (ha : s.a = t.a) (hx : s.x = t.x) (hy : s.y = t.y) (hsp : s.sp = t.sp)
    (hpc : s.pc = t.pc) (hp : s.p = t.p) (hop : s.opcode = t.opcode) (hf : s.fetched = t.fetched)
    (haa : s.addrAbs = t.addrAbs) (har : s.addrRel = t.addrRel) (ht : s.temp = t.temp) (hc : s.cycles = t.cycles)
    (hn : s.nmiPending = t.nmiPending) (hm : s.mem = t.mem) (hbm : s.busMap = t.busMap) (hbl : s.busLog = t.busLog)
    (hh : s.hostCalls = t.hostCalls) : s = t := by
  cases s
  cases t
  simp_all

/-- A byte written to plain RAM is there (R51). -/
theorem busWrite_memRead_same {s : State} {a : Word} {v : Byte} (hw : s.mem.wf = true) (h : s.target a = .ram) :
    memRead (busWrite a v s).mem a.toNat = v := by
  rw [busWrite_ram h]
  exact memRead_memWrite_same hw

/-- A write sees and changes only the bus: not the registers beside it (R50, R51). -/
theorem busWrite_bus_congr {s u : State} (a : Word) (v : Byte) (hm : s.mem = u.mem) (hb : s.busMap = u.busMap)
    (hl : s.busLog = u.busLog) :
    (busWrite a v s).mem = (busWrite a v u).mem ∧ (busWrite a v s).busLog = (busWrite a v u).busLog := by
  have ht : s.target a = u.target a := by simp [State.target, hb]
  simp only [busWrite, ht]
  split <;> simp [hm, hl]

theorem busRead_log_device {s : State} {a : Word} (h : s.target a = .device) :
    (busRead a s).2.busLog = .read a :: s.busLog := by
  rw [busRead_device h]
  rfl

theorem push_memRead_same {s : State} {v : Byte} (hw : s.mem.wf = true) (h : s.target (stackAddr s.sp) = .ram) :
    memRead (push v s).mem (stackAddr s.sp).toNat = v := by
  simp only [push, State.setSp_mem]
  exact busWrite_memRead_same hw h

theorem push_memRead_other {s : State} {v : Byte} {a : Word} (h : a ≠ stackAddr s.sp) :
    memRead (push v s).mem a.toNat = memRead s.mem a.toNat := by
  simp only [push, State.setSp_mem]
  exact busWrite_memRead_other (word_toNat_ne h)

/-- The bus sees a push (R56, R58). -/
theorem push_busLog {s : State} {v : Byte} (h : s.target (stackAddr s.sp) ≠ .unmapped) :
    (push v s).busLog = .write (stackAddr s.sp) v :: s.busLog := by
  simp [push, busWrite_busLog h]

theorem pull_ram {s : State} (h : s.target (stackAddr (s.sp + 1#8)) = .ram) :
    pull s = (ramByte s (stackAddr (s.sp + 1#8)), s.setSp (s.sp + 1#8)) := by
  simp only [pull, State.setSp_sp]
  rw [busRead_ram (by simpa using h)]
  rfl

theorem pull_log_device {s : State} (h : s.target (stackAddr (s.sp + 1#8)) = .device) :
    (pull s).2.busLog = .read (stackAddr (s.sp + 1#8)) :: s.busLog := by
  simp [pull, busRead_log_device, h]

theorem pullWord_ram {s : State} (h : ∀ a, s.target a = .ram) :
    pullWord s = (joinBytes (ramByte s (stackAddr (s.sp + 2#8))) (ramByte s (stackAddr (s.sp + 1#8))),
      s.setSp (s.sp + 2#8)) := by
  simp only [pullWord, pull_ram (h _)]
  rw [pull_ram (by simpa using h _)]
  simp [BitVec.add_assoc]
  exact ⟨rfl, rfl⟩

theorem read16_ram {s : State} (h : ∀ a, s.target a = .ram) (w : Word) :
    read16 w s = (joinBytes (ramByte s (w + 1#16)) (ramByte s w), s) := by
  simp only [read16, busRead_ram (h _)]
  rfl

theorem readIndirect_ram {s : State} (h : ∀ a, s.target a = .ram) (w : Word) :
    readIndirect w s =
      (joinBytes (ramByte s (joinBytes (highByte w) (lowByte w + 1#8))) (ramByte s w), s) := by
  simp only [readIndirect, busRead_ram (h _)]
  rfl

theorem readZeroPagePointer_ram {s : State} (h : ∀ a, s.target a = .ram) (b : Byte) :
    readZeroPagePointer b s = (joinBytes (ramByte s (zeroPage (b + 1#8))) (ramByte s (zeroPage b)), s) := by
  simp only [readZeroPagePointer, busRead_ram (h _)]
  rfl

/-- The memory after an interrupt entry: three pushes (R184, R306). -/
theorem enterInterrupt_mem (k : Bool) (v : Word) (s : State) :
    (enterInterrupt k v s).mem = (push (pushedStatus k s.p) (push (lowByte s.pc) (push (highByte s.pc) s))).mem := by
  simp [enterInterrupt, pushWord]

/-- The interrupt entry in plain RAM, but for the memory: three pushes, SP down by 3, I set, PC the word at the vector as
it stands after the pushes (R184, R306). -/
theorem enterInterrupt_ram (k : Bool) (v : Word) {s : State} (h : ∀ a, s.target a = .ram) :
    enterInterrupt k v s = { s with
      mem := (enterInterrupt k v s).mem
      busLog := .write (stackAddr (s.sp - 2#8)) (pushedStatus k s.p) :: .write (stackAddr (s.sp - 1#8)) (lowByte s.pc) ::
        .write (stackAddr s.sp) (highByte s.pc) :: s.busLog
      sp := s.sp - 3#8
      p := { s.p with i := true }
      pc := joinBytes (ramByte (enterInterrupt k v s) (v + 1#16)) (ramByte (enterInterrupt k v s) v) } := by
  have h3 : s.sp - 2#8 - 1#8 = s.sp - 3#8 := by simp [BitVec.sub_eq_add_neg, BitVec.add_assoc]
  have h2 : s.sp - 1#8 - 1#8 = s.sp - 2#8 := by simp [BitVec.sub_eq_add_neg, BitVec.add_assoc]
  have h1 : (push (pushedStatus k s.p) (pushWord s.pc s)).busLog = .write (stackAddr (s.sp - 2#8)) (pushedStatus k s.p) ::
      .write (stackAddr (s.sp - 1#8)) (lowByte s.pc) :: .write (stackAddr s.sp) (highByte s.pc) :: s.busLog := by
    rw [push_busLog (by simp [h]), pushWord, push_busLog (by simp [h]), push_busLog (by simp [h])]
    simp [h2]
  have hr : ∀ a, ((push (pushedStatus k s.p) (pushWord s.pc s)).setP { s.p with i := true }).target a = .ram := by
    simpa using h
  apply State.eq_of_fields
  case hpc =>
    simp only [enterInterrupt, push_p, pushWord_p]
    rw [read16_ram hr]
    simp [ramByte]
  case hbl =>
    simp only [enterInterrupt, push_p, pushWord_p]
    rw [read16_ram hr]
    exact h1
  all_goals simp [enterInterrupt, h2, h3]

end Sys2Proof.Machine
end

