-- ==== Sys2Proof/Laws/Engine.lean ====
section
/-! SUPPORT. What a fetch, a tick and a step can do (R261 to R269, R303), said once. -/

namespace Sys2Proof.Machine

/-- Every instruction answers a next state. -/
theorem exec_total (i : Instr) (s : State) : ∃ t, exec i s = .next t := ⟨_, exec_next i s⟩

/-- All an instruction does to the bus is reads and writes (R62), and it changes nothing outside. -/
theorem exec_keeps {i : Instr} {s t : State} (h : exec i s = .next t) :
    BusSteps s t ∧ t.opcode = s.opcode ∧ t.nmiPending = s.nmiPending ∧ t.hostCalls = s.hostCalls := by
  rw [exec_next] at h
  rw [← Host.Outcome.next.inj h]
  have ho := handlerFn_outer i.handler i.operand (atHandler i s)
  exact ⟨((atHandler_steps i s).trans (handlerFn_steps _ _ _)).core rfl, by simp [ho.1], by simp [ho.2.1],
    by simp [ho.2.2.2]⟩

/-- The fetch only reads. -/
theorem fetch_steps (s : State) : BusSteps s (fetch s).2 := by
  have k : ∀ (c : Prop) [Decidable c] (a : Word) {u : State}, BusSteps s u →
      BusSteps s (if c then busRead a u else (0#8, u)).2 := by
    intro c _ a u h
    split
    · exact h.read a
    · exact h
  exact k _ _ (k _ _ ((BusSteps.refl.read s.pc).core rfl))

/-- What the fetch leaves alone. -/
theorem fetch_frame (s : State) :
    (fetch s).2.a = s.a ∧ (fetch s).2.x = s.x ∧ (fetch s).2.y = s.y ∧ (fetch s).2.sp = s.sp ∧ (fetch s).2.p = s.p ∧
      (fetch s).2.cycles = s.cycles ∧ (fetch s).2.nmiPending = s.nmiPending ∧ (fetch s).2.mem = s.mem ∧
      (fetch s).2.hostCalls = s.hostCalls := by
  simp only [fetch]
  refine ⟨?_, ?_, ?_, ?_, ?_, ?_, ?_, ?_, ?_⟩
  all_goals (split <;> split <;> simp)

/-- The opcode the fetch reads is the instruction's. -/
theorem fetch_opcode (s : State) :
    (fetch s).2.opcode = (busRead s.pc s).1 ∧ (fetch s).1.opcode = (busRead s.pc s).1 := by
  refine ⟨?_, (decodeParts_spec _ _ _).1⟩
  simp only [fetch]
  split <;> split <;> simp

/-- The fetch from plain RAM: what the three bytes at PC decode to, with that opcode latched and PC past it. -/
theorem fetch_ram {s : State} (h0 : s.target s.pc = .ram) (h1 : s.target (s.pc + 1#16) = .ram)
    (h2 : s.target (s.pc + 2#16) = .ram) :
    (fetch s).2 = { s with opcode := ramByte s s.pc, pc := s.pc + 1#16 } ∧
    ∀ i rest, decode [ramByte s s.pc, ramByte s (s.pc + 1#16), ramByte s (s.pc + 2#16)] = .ok (i, rest) →
      (fetch s).1 = i := by
  have e1 : ∀ v, busRead (s.pc + 1#16) ((s.setOpcode v).setPc (s.pc + 1#16)) =
      (ramByte s (s.pc + 1#16), (s.setOpcode v).setPc (s.pc + 1#16)) := fun v => busRead_ram (by simpa using h1)
  have e2 : ∀ v, busRead (s.pc + 2#16) ((s.setOpcode v).setPc (s.pc + 1#16)) =
      (ramByte s (s.pc + 2#16), (s.setOpcode v).setPc (s.pc + 1#16)) := fun v => busRead_ram (by simpa using h2)
  have a : s.pc + 1#16 + 1#16 = s.pc + 2#16 := by simp [BitVec.add_assoc]
  have hp := decodeParts_spec (ramByte s s.pc) 0 0
  simp only [fetch, busRead_ram h0, State.setPc_pc, e1, a]
  have hb : memRead s.mem s.pc.toNat = ramByte s s.pc := rfl
  rw [hb]
  generalize ramByte s s.pc = op at *
  constructor
  · split <;> split <;> simp [e2] <;> rfl
  · intro i rest hd
    obtain ⟨pre, hpre, hl, rfl⟩ := (decode_iff _ _ _ _).1 hd
    by_cases h0 : op = 0#8
    · subst h0
      rfl
    · have hbr : (table op).bytesRead = (table op).mode.operandBytes := by
        rw [Entry.bytesRead, if_neg (fun h => h0 (hp.2.2.2.2.1 h))]
      have hle := hp.2.2.2.1
      rw [hbr]
      generalize (table op).mode.operandBytes = n at *
      match n, pre, hl, hle with
      | 0, [], _, _ => simp
      | 1, [x], _, _ =>
        simp at hpre ⊢
        rw [hpre.1]
      | 2, [x, y], _, _ =>
        simp at hpre ⊢
        rw [e2, hpre.1, hpre.2.1]

/-- What an interrupt entry keeps, and its charge (R306). -/
theorem interrupt_frame (v : Word) (s : State) :
    (interrupt v s).cycles = Config.intCycles ∧ (interrupt v s).a = s.a ∧ (interrupt v s).x = s.x ∧
      (interrupt v s).y = s.y ∧ (interrupt v s).opcode = s.opcode ∧ (interrupt v s).fetched = s.fetched ∧
      (interrupt v s).addrAbs = s.addrAbs ∧ (interrupt v s).addrRel = s.addrRel ∧ (interrupt v s).temp = s.temp ∧
      (interrupt v s).nmiPending = s.nmiPending ∧ (interrupt v s).busMap = s.busMap ∧
      (interrupt v s).hostCalls = s.hostCalls := by
  simp [interrupt]

theorem interrupt_steps {s t : State} (h : BusSteps s t) (v : Word) : BusSteps s (interrupt v t) :=
  (enterInterrupt_steps h false v).core rfl

/-- What a reset keeps beside the bus: the host's calls (R341). -/
theorem hostReset_hostCalls (s : State) : (hostReset s).hostCalls = s.hostCalls := by simp [hostReset]

/-- The end of a tick (R264). -/
theorem endTick_next (s : State) : endTick (.next s) = .next (s.setCycles (s.cycles - 1#8)) := rfl

/-- A step is a tick when the host's next call is one (R268). -/
theorem step_of_ticksNext {s : State} {irq : Bool} {calls : List HostCall} (h : ticksNext irq calls s) :
    step s = tick irq { s with hostCalls := calls } := by
  show hostStep s = _
  rcases h with h | ⟨h, rfl, rfl⟩ <;> rw [hostStep, h] <;> simp only
  · rfl
  · congr 1
    rw [← h]

/-- A step on a reset call is the reset (R341). -/
theorem step_of_reset {s : State} {calls : List HostCall} (h : s.hostCalls = .reset :: calls) :
    step s = .next (hostReset { s with hostCalls := calls }) := by
  show hostStep s = _
  rw [hostStep, h]
  rfl

/-- A step on an NMI call is the latch (R304). -/
theorem step_of_nmi {s : State} {calls : List HostCall} (h : s.hostCalls = .nmi :: calls) :
    step s = .next (hostNmi { s with hostCalls := calls }) := by
  show hostStep s = _
  rw [hostStep, h]
  rfl

/-- A tick at a boundary with no interrupt to take runs the fetched instruction (R261, R303). -/
theorem tick_runs {s : State} {irq : Bool} (hc : s.cycles = 0#8) (hn : s.nmiPending = false)
    (hi : irq = true → s.p.i = true) : tick irq s = endTick (exec (fetch s).1 (fetch s).2) := by
  have : (irq && !s.p.i) = false := by cases irq <;> simp_all
  simp [tick, complete, hc, boundaryAction, hn, this, stepInstruction]

/-- Everything a tick that answers can do: count down, or take an interrupt or run an instruction and count down
(R261, R303). -/
theorem tick_cases {irq : Bool} {s t : State} (h : tick irq s = .next t) :
    (s.cycles ≠ 0#8 ∧ t = s.setCycles (s.cycles - 1#8)) ∨
    (s.cycles = 0#8 ∧ ∃ u, t = u.setCycles (u.cycles - 1#8) ∧
      ((s.nmiPending = true ∧ u = interrupt Config.nmiVector (s.setNmiPending false)) ∨
       (s.nmiPending = false ∧ irq = true ∧ s.p.i = false ∧ u = interrupt Config.irqVector s) ∨
       (s.nmiPending = false ∧ (irq = true → s.p.i = true) ∧ exec (fetch s).1 (fetch s).2 = .next u))) := by
  by_cases hc : s.cycles = 0#8
  · refine .inr ⟨hc, ?_⟩
    simp only [tick, complete, hc, beq_self_eq_true, if_true, boundaryAction] at h
    split at h
    · exact ⟨_, (Host.Outcome.next.inj h).symm, .inl ⟨‹_›, rfl⟩⟩
    · have hn : s.nmiPending = false := by simpa using ‹¬s.nmiPending = true›
      split at h
      · rename_i hi
        simp only [Bool.and_eq_true, Bool.not_eq_true'] at hi
        exact ⟨_, (Host.Outcome.next.inj h).symm, .inr (.inl ⟨hn, hi.1, hi.2, rfl⟩)⟩
      · rename_i hi
        obtain ⟨u, e⟩ := exec_total (fetch s).1 (fetch s).2
        rw [stepInstruction, e] at h
        exact ⟨u, (Host.Outcome.next.inj h).symm, .inr (.inr ⟨hn, by simpa using hi, e⟩)⟩
  · refine .inl ⟨hc, ?_⟩
    simp [tick, complete, hc, endTick] at h
    exact h.symm

/-- Everything a step that answers can do: a tick, a reset or an NMI call (R268). -/
theorem step_cases {s t : State} (h : step s = .next t) :
    (∃ irq calls, ticksNext irq calls s ∧ tick irq { s with hostCalls := calls } = .next t) ∨
    (∃ calls, s.hostCalls = .reset :: calls ∧ t = hostReset { s with hostCalls := calls }) ∨
    (∃ calls, s.hostCalls = .nmi :: calls ∧ t = hostNmi { s with hostCalls := calls }) := by
  match hc : s.hostCalls with
  | [] =>
    have ht : ticksNext false [] s := .inr ⟨hc, rfl, rfl⟩
    exact .inl ⟨_, _, ht, step_of_ticksNext ht ▸ h⟩
  | .tick irq :: c =>
    have ht : ticksNext irq c s := .inl hc
    exact .inl ⟨_, _, ht, step_of_ticksNext ht ▸ h⟩
  | .reset :: c =>
    rw [step_of_reset hc] at h
    exact .inr (.inl ⟨c, rfl, (Host.Outcome.next.inj h).symm⟩)
  | .nmi :: c =>
    rw [step_of_nmi hc] at h
    exact .inr (.inr ⟨c, rfl, (Host.Outcome.next.inj h).symm⟩)

/-- All a tick does to the bus is reads and writes (R62), and it leaves the host's calls alone. -/
theorem tick_keeps {irq : Bool} {s t : State} (h : tick irq s = .next t) :
    BusSteps s t ∧ t.hostCalls = s.hostCalls := by
  have last : ∀ u : State, BusSteps s u → u.hostCalls = s.hostCalls →
      BusSteps s (u.setCycles (u.cycles - 1#8)) ∧ (u.setCycles (u.cycles - 1#8)).hostCalls = s.hostCalls :=
    fun u k e => ⟨k.core rfl, e⟩
  rcases tick_cases h with ⟨-, rfl⟩ | ⟨-, u, rfl, ⟨-, rfl⟩ | ⟨-, -, -, rfl⟩ | ⟨-, -, e⟩⟩
  · exact last s .refl rfl
  · have r : BusSteps s (s.setNmiPending false) := (BusSteps.refl (s := s)).core (u := s.setNmiPending false) rfl
    exact last _ (interrupt_steps r Config.nmiVector) (by simp [interrupt])
  · exact last _ (interrupt_steps .refl Config.irqVector) (by simp [interrupt])
  · have k := exec_keeps e
    exact last u ((fetch_steps s).trans k.1) (k.2.2.2.trans (fetch_frame s).2.2.2.2.2.2.2.2)

/-- All a step does to the bus is reads and writes (R50, R62), and it takes one call of the host. -/
theorem step_keeps {s t : State} (h : step s = .next t) : BusSteps s t ∧ t.hostCalls = s.hostCalls.tail := by
  have start : ∀ calls, BusSteps s { s with hostCalls := calls } := fun _ => .core .refl rfl
  rcases step_cases h with ⟨irq, calls, ht, hk⟩ | ⟨calls, hc, rfl⟩ | ⟨calls, hc, rfl⟩
  · have k := tick_keeps hk
    refine ⟨(start calls).trans k.1, k.2.trans ?_⟩
    rcases ht with e | ⟨e, -, rfl⟩ <;> simp [e]
  · rw [hc]
    exact ⟨hostReset_steps (start calls), hostReset_hostCalls _⟩
  · rw [hc]
    exact ⟨(start calls).core rfl, rfl⟩

/-- Accesses keep the memory holding the last byte written to each plain-RAM address (R51). -/
theorem BusSteps.holdsLastWrites {init : Word → Byte} {s t : State} (k : BusSteps s t)
    (h : Machine.holdsLastWrites init s) : Machine.holdsLastWrites init t := by
  refine ⟨k.wf h.1, ?_⟩
  induction k with
  | refl => exact h.2
  | @read t k a ih =>
    intro b hb
    rw [busRead_target] at hb
    rw [ramByte, busRead_mem, ← ramByte, ih b hb]
    by_cases ha : t.target a = .ram
    · rw [busRead_ram ha]
    · rw [busRead_other ha]
      rfl
  | @write t k a v ih =>
    intro b hb
    rw [busWrite_target] at hb
    by_cases e : a = b
    · subst e
      rw [busWrite_busLog (by simp [hb]), ramByte, busWrite_memRead_same (k.wf h.1) hb]
      simp [lastWrite]
    · rw [ramByte, busWrite_memRead_other (word_toNat_ne fun e' => e e'.symm), ← ramByte, ih b hb]
      unfold busWrite
      split <;> simp [lastWrite, e]
  | @core t u k e ih =>
    have hm : u.mem = t.mem := congrArg (·.1) e
    have hb : u.busMap = t.busMap := congrArg (·.2.1) e
    have hl : u.busLog = t.busLog := congrArg (·.2.2) e
    simpa [ramByte, State.target, hm, hb, hl] using ih

/-- Reset leaves the bus's state, whatever the core's (R341, R343), on the bus the model starts from. -/
theorem hostReset_eq_reset {s : State} (hm : s.mem = []) (hb : s.busMap = []) (hl : s.busLog = [])
    (hh : s.hostCalls = []) : hostReset s = State.reset := by
  have h : ∀ a, s.target a = .ram := by
    intro a
    simp [State.target, hb, targetIn]
  simp only [hostReset, read16_ram h]
  apply State.eq_of_fields <;> simp [hm, hb, hl, hh, State.reset, ramByte, memRead, unlistedByte, joinBytes]

end Sys2Proof.Machine
end

