-- ==== Sys2Proof/Laws/Flags.lean ====
section
/-! SUPPORT. The flag computations of the ALU as arithmetic on numbers (R170 to R173, R220, R221, R226, R227). -/

namespace Sys2Proof.Machine

theorem withZN_eq (v : Byte) (p : Status) :
    withZN v p = { p with z := decide (v.toNat = 0), n := decide (128 ≤ v.toNat) } := by
  have h : (v == 0#8) = decide (v.toNat = 0) := by
    rw [Bool.eq_iff_iff]
    simp [BitVec.toNat_eq]
  simp [withZN, h, byte_bit7]

theorem sum9_toNat (a m : Byte) (c : Bool) : (sum9 a m c).toNat = a.toNat + m.toNat + c.toNat := by
  have := a.isLt
  have := m.isLt
  cases c <;> simp [sum9] <;> omega

theorem sum9_low_toNat (a m : Byte) (c : Bool) :
    ((sum9 a m c).setWidth 8).toNat = (a.toNat + m.toNat + c.toNat) % 256 := by
  rw [BitVec.toNat_setWidth, sum9_toNat]

theorem sumCarry_eq (a m : Byte) (c : Bool) :
    sumCarry (sum9 a m c) = decide (256 ≤ a.toNat + m.toNat + c.toNat) := by
  simp only [sumCarry, BitVec.lt_def, sum9_toNat]
  by_cases h : 256 ≤ a.toNat + m.toNat + c.toNat <;> simp [h] <;> omega

/-- V is the signed overflow of the 9-bit sum (R221). -/
theorem sumOverflow_eq (a m : Byte) (c : Bool) : sumOverflow a m ((sum9 a m c).setWidth 8) =
    decide (a.toInt + m.toInt + c.toNat < -128 ∨ 127 < a.toInt + m.toInt + c.toNat) := by
  have ha := a.isLt
  have hm := m.isLt
  have hr := sum9_low_toNat a m c
  have hc := Bool.toNat_le c
  simp only [sumOverflow]
  simp only [BitVec.getLsbD_eq_getElem (show 7 < 8 by omega), BitVec.getElem_and, BitVec.getElem_not,
    BitVec.getElem_xor, byte_bit7, hr]
  simp only [BitVec.toInt_eq_toNat_cond]
  rw [Bool.eq_iff_iff]
  by_cases h1 : 128 ≤ a.toNat <;> by_cases h2 : 128 ≤ m.toNat <;> simp [h1, h2] <;> omega

theorem difference_toNat (r m : Byte) : (difference r m).toNat = (r.toNat + 65536 - m.toNat) % 65536 := by
  have h1 := r.isLt
  have h2 := m.isLt
  simp [difference, BitVec.toNat_sub]
  omega

theorem withCompare_eq (r m : Byte) (p : Status) : withCompare r m p =
    { p with c := decide (m.toNat ≤ r.toNat), z := decide (r.toNat = m.toNat),
             n := decide (128 ≤ (r.toNat + 256 - m.toNat) % 256) } := by
  have h1 := r.isLt
  have h2 := m.isLt
  have : ((difference r m).setWidth 8).toNat = (r.toNat + 256 - m.toNat) % 256 := by
    simp [difference, BitVec.toNat_sub]
    omega
  simp only [withCompare, withZN_eq, this, BitVec.le_def]
  simp
  omega

/-- Every stored flag survives a read and a write back of P (R34, R35). -/
theorem statusOf_pushedStatus (k : Bool) (p : Status) : statusOf (pushedStatus k p) = { p with b := k } := by
  obtain ⟨c, z, i, d, b, v, n⟩ := p
  cases k <;> cases c <;> cases z <;> cases i <;> cases d <;> cases b <;> cases v <;> cases n <;> rfl

set_option maxRecDepth 100000 in
/-- The shifted word of ASL and ROL (R170, R172), with the bit shifted in. -/
theorem shiftLeft_facts : ∀ (c : Bool) (v : Byte), let t := v.setWidth 16 <<< 1 ||| (BitVec.ofBool c).setWidth 16
    t.getLsbD 8 = decide (128 ≤ v.toNat) ∧ (t.setWidth 8).toNat = (2 * v.toNat + c.toNat) % 256 ∧
      t.toNat = 2 * v.toNat + c.toNat := by decide

set_option maxRecDepth 100000 in
/-- The shifted word of LSR and ROR (R171, R173), with the bit shifted in. -/
theorem shiftRight_facts : ∀ (c : Bool) (v : Byte), let t := (BitVec.ofBool c).setWidth 16 <<< 7 ||| (v >>> 1).setWidth 16
    v.getLsbD 0 = decide (v.toNat % 2 = 1) ∧ (t.setWidth 8).toNat = v.toNat / 2 + 128 * c.toNat ∧
      t.toNat = v.toNat / 2 + 128 * c.toNat := by decide

end Sys2Proof.Machine
end

