-- ==== Sys2Proof/Tests/Slice0.lean ====
section
/-! SUPPORT. The model's own tests, with expected results from spec/ (30_encoding.md and 95_test_vectors.md), and a
named witness for the hypotheses of every statement that has some. -/

namespace Sys2Proof.Tests

open Sys2Proof Sys2Proof.Machine Sys2Proof.Claims

/-! ## Helpers -/

/-- The start state S0 of 95_test_vectors.md with some bytes in memory: a boundary, PC = 0x0600, every flag 0. -/
def start (cells : List Host.Cell) : State :=
  { State.reset with
    pc := 0x0600#16
    p := statusOf 0x20#8
    cycles := 0#8
    mem := cells.foldl (fun m c => memWrite m c.1 c.2) [] }

/-- What one step from a state leaves. -/
def after {α : Type} (s : State) (f : State → α) : Option α :=
  match step s with
  | .next t => some (f t)
  | .fault _ => none
  | .refused _ => none

/-- A state whose every address is a peripheral. -/
def dev : State := { State.reset with cycles := 0#8, busMap := [⟨0x0000#16, 0xFFFF#16, .device⟩] }

/-- A state in which nothing answers at any address. -/
def hole : State := { State.reset with cycles := 0#8, busMap := [⟨0x0000#16, 0xFFFF#16, .unmapped⟩] }

/-- A bus of R51's shape that is not plain RAM: 0x0800 to 0x08FF shows page 0 again and takes no write, nothing answers at
0x4000, whose OPEN_BUS is 0x40, and every other address is plain RAM that starts as zeros. -/
def mirrorBus : Bus (Word → Byte) where
  start := fun _ => 0x00#8
  read := fun b a =>
    (b, if a = 0x4000#16 then 0x40#8 else if 0x0800#16 ≤ a ∧ a ≤ 0x08FF#16 then b (a - 0x0800#16) else b a)
  write := fun b a v =>
    if a = 0x4000#16 ∨ 0x0800#16 ≤ a ∧ a ≤ 0x08FF#16 then b else fun c => if c = a then v else b c

/-- A state on that bus. -/
def mirrored : State :=
  { start [] with busMap := [⟨0x0800#16, 0x08FF#16, .device⟩, ⟨0x4000#16, 0x4000#16, .unmapped⟩] }

theorem dev_allDevice : allDevice dev := by
  intro a
  have h : a ≤ 0xFFFF#16 := by
    have := a.isLt
    simp only [BitVec.le_def]
    simp
    omega
  simp [State.target, targetIn, dev, h]

theorem reset_allRam : allRam State.reset := fun _ => rfl

theorem start_allRam (cells : List Host.Cell) : allRam (start cells) := fun _ => rfl

/-! ## Well-formedness: the forms of the tables pass, a form no opcode has is refused -/

theorem test_wf_every_instruction (i : Instr) : i.wellFormed = true := wellFormed_all i
/-- STA has no immediate form (R143). -/
theorem test_wf_sta_imm : Form.wellFormed ⟨.sta, .imm 0x41#8⟩ = false := by decide
/-- LDX has no X-indexed form (R141). -/
theorem test_wf_ldx_zpx : Form.wellFormed ⟨.ldx, .zpx 0x41#8⟩ = false := by decide
/-- JMP has no page-0 form (R180). -/
theorem test_wf_jmp_zp : Form.wellFormed ⟨.jmp, .zp 0x41#8⟩ = false := by decide
/-- BRK's padding byte is no operand (R184). -/
theorem test_wf_brk_imm : Form.wellFormed ⟨.brk, .imm 0x41#8⟩ = false := by decide
/-- Only BRK skips its byte (R80). -/
theorem test_wf_lda_skipped : Form.wellFormed ⟨.lda, .skipped⟩ = false := by decide
/-- An unassigned opcode has no operand (R253). -/
theorem test_wf_xxx_zp : Form.wellFormed ⟨.xxx, .zp 0x41#8⟩ = false := by decide

/-! ## Decoding, one word per family, written out from R82 and R86 -/

theorem test_decode_load : decode [0xBD#8, 0xFF#8, 0x20#8] = .ok (.ldaAbx 0x20FF#16, []) := by decide
theorem test_decode_store : decode [0x91#8, 0x10#8] = .ok (.staIzy 0x10#8, []) := by decide
theorem test_decode_transfer : decode [0xBA#8] = .ok (.tsx, []) := by decide
theorem test_decode_stack : decode [0x28#8] = .ok (.plp, []) := by decide
theorem test_decode_shift : decode [0x6E#8, 0x00#8, 0x02#8] = .ok (.rorAbs 0x0200#16, []) := by decide
theorem test_decode_jump : decode [0x6C#8, 0xFF#8, 0x02#8] = .ok (.jmpInd 0x02FF#16, []) := by decide
theorem test_decode_call : decode [0x20#8, 0x34#8, 0x12#8] = .ok (.jsr 0x1234#16, []) := by decide
theorem test_decode_branch : decode [0x70#8, 0x02#8] = .ok (.bvs 0x02#8, []) := by decide
theorem test_decode_flag : decode [0xB8#8] = .ok (.clv, []) := by decide
theorem test_decode_alu : decode [0x41#8, 0xFE#8] = .ok (.eorIzx 0xFE#8, []) := by decide
theorem test_decode_brk : decode [0x00#8, 0xEA#8] = .ok (.brk, []) := by decide
theorem test_decode_unassigned : decode [0x9C#8, 0x01#8] = .ok (.unassigned9C, [0x01#8]) := by decide
theorem test_decode_truncated : decode [0x4C#8, 0x00#8] = .error (.truncated 0x4C#8) := by decide
theorem test_decode_table_word : decodeTableWord 8 0xEA = some .nop := by decide
theorem test_decode_table_short_word : decodeTableWord 8 0xAD = some (.ldaAbs 0x0000#16) := by decide
theorem test_decode_table_long_word : decodeTableWord 24 0x20FFBD = some (.ldaAbx 0x20FF#16) := by decide

/-! ## Assembly text and the displacement byte (R90, 95 CF14 and CF21) -/

theorem test_branch_byte_most_negative : branchByte 0x0600#16 0x0582#16 = some 0x80#8 := by decide
theorem test_branch_byte_self : branchByte 0x0600#16 0x0600#16 = some 0xFE#8 := by decide
theorem test_branch_byte_out_of_range : branchByte 0x0600#16 0x0682#16 = none := by decide

/-! ## Steps: the vectors of 95_test_vectors.md, by id. After one tick `cycles` is the charge minus 1 (R264) -/

/-- AM6. -/
theorem test_lda_abx_page_cross : after { start [(0x0600, 0xBD#8), (0x0601, 0xFF#8), (0x0602, 0x20#8), (0x2100, 0x42#8)]
    with x := 0x01#8 } (fun t => (t.a, t.pc, t.cycles)) = some (0x42#8, 0x0603#16, 4#8) := by decide
/-- AM7. -/
theorem test_lda_abx_same_page : after { start [(0x0600, 0xBD#8), (0x0602, 0x20#8), (0x2001, 0x43#8)] with x := 0x01#8 }
    (fun t => (t.a, t.pc, t.cycles)) = some (0x43#8, 0x0603#16, 3#8) := by decide
/-- AM4. -/
theorem test_ldx_zpy_wraps : after { start [(0x0600, 0xB6#8), (0x0601, 0x80#8), (0x0010, 0x05#8)] with y := 0x90#8 }
    (fun t => (t.x, t.pc)) = some (0x05#8, 0x0602#16) := by decide
/-- AM10: the pointer's high byte wraps in page 0. -/
theorem test_lda_izx_wraps : after { start [(0x0600, 0xA1#8), (0x0601, 0xFE#8), (0x0000, 0x03#8), (0x0300, 0x46#8)]
    with x := 0x01#8 } (fun t => (t.a, t.cycles)) = some (0x46#8, 5#8) := by decide
/-- AM13: IZY past 0xFFFF, a page cross. -/
theorem test_lda_izy_wraps : after { start [(0x0600, 0xB1#8), (0x0601, 0x10#8), (0x0010, 0xF0#8), (0x0011, 0xFF#8)]
    with y := 0x20#8 } (fun t => (t.a, t.cycles)) = some (0xF0#8, 5#8) := by decide
/-- AM14: the page-wrap defect. -/
theorem test_jmp_ind_page_wrap : after (start [(0x0600, 0x6C#8), (0x0601, 0xFF#8), (0x0602, 0x02#8), (0x0200, 0x02#8),
    (0x02FF, 0x34#8), (0x0300, 0x99#8)]) (fun t => (t.pc, t.cycles)) = some (0x0234#16, 4#8) := by decide
/-- AM16: a store is not eligible for the page-cross cycle. -/
theorem test_sta_abx_cost : after { start [(0x0600, 0x9D#8), (0x0601, 0xFF#8), (0x0602, 0x20#8)] with
    a := 0x55#8, x := 0x01#8 } (fun t => (ramByte t 0x2100#16, t.cycles)) = some (0x55#8, 4#8) := by decide
/-- LS17. -/
theorem test_tsx_zero : after { start [(0x0600, 0xBA#8)] with sp := 0x00#8 } (fun t => (t.x, pbyte t.p)) =
    some (0x00#8, 0x22#8) := by decide
/-- LS18: TXS changes no flag. -/
theorem test_txs_no_flag : after { start [(0x0600, 0x9A#8)] with p := statusOf 0xA0#8 } (fun t => (t.sp, pbyte t.p)) =
    some (0x00#8, 0xA0#8) := by decide
/-- ST2: SP wraps. -/
theorem test_pha_wraps : after { start [(0x0600, 0x48#8)] with a := 0x41#8, sp := 0x00#8 }
    (fun t => (t.sp, ramByte t 0x0100#16)) = some (0xFF#8, 0x41#8) := by decide
/-- ST3. -/
theorem test_php : after { start [(0x0600, 0x08#8)] with p := statusOf 0x23#8 }
    (fun t => (ramByte t 0x01FD#16, pbyte t.p)) = some (0x33#8, 0x23#8) := by decide
/-- ST6: SP wraps. -/
theorem test_pla_wraps : after { start [(0x0600, 0x68#8), (0x0100, 0x90#8)] with sp := 0xFF#8 }
    (fun t => (t.a, t.sp, pbyte t.p)) = some (0x90#8, 0x00#8, 0xA0#8) := by decide
/-- ST9: PLP stores B. -/
theorem test_plp : after { start [(0x0600, 0x28#8), (0x01FD, 0xFF#8)] with sp := 0xFC#8 }
    (fun t => (t.sp, pbyte t.p)) = some (0xFD#8, 0xFF#8) := by decide
/-- SH2. -/
theorem test_asl_a : after { start [(0x0600, 0x0A#8)] with a := 0x80#8 } (fun t => (t.a, pbyte t.p)) =
    some (0x00#8, 0x23#8) := by decide
/-- SH5. -/
theorem test_lsr_zp : after { start [(0x0600, 0x46#8), (0x0601, 0x10#8), (0x0010, 0xFF#8)] with p := statusOf 0xA0#8 }
    (fun t => (ramByte t 0x0010#16, pbyte t.p)) = some (0x7F#8, 0x21#8) := by decide
/-- SH6. -/
theorem test_rol_a : after { start [(0x0600, 0x2A#8)] with a := 0x40#8, p := statusOf 0x21#8 }
    (fun t => (t.a, pbyte t.p)) = some (0x81#8, 0xA0#8) := by decide
/-- SH10. -/
theorem test_ror_a : after { start [(0x0600, 0x6A#8)] with p := statusOf 0x21#8 } (fun t => (t.a, pbyte t.p)) =
    some (0x80#8, 0xA0#8) := by decide
/-- CF4: JSR with SP = 0x00. -/
theorem test_jsr_wraps : after { start [(0x0600, 0x20#8), (0x0601, 0x34#8), (0x0602, 0x12#8)] with sp := 0x00#8 }
    (fun t => (t.pc, t.sp, ramByte t 0x0100#16, ramByte t 0x01FF#16)) =
      some (0x1234#16, 0xFE#8, 0x06#8, 0x02#8) := by decide
/-- CF5. -/
theorem test_rts : after (start [(0x0600, 0x60#8), (0x01FE, 0x07#8), (0x01FF, 0x06#8)]) (fun t => (t.pc, t.sp)) =
    some (0x0608#16, 0xFF#8) := by decide
/-- CF8: RTI clears B. -/
theorem test_rti : after { start [(0x0600, 0x40#8), (0x01FB, 0x34#8), (0x01FD, 0x80#8)] with
    sp := 0xFA#8, p := statusOf 0x30#8 } (fun t => (t.pc, t.sp, pbyte t.p)) = some (0x8000#16, 0xFD#8, 0x24#8) := by
  decide
/-- CF10. -/
theorem test_brk : after { start [(0x0600, 0x00#8), (0x0601, 0xEA#8), (0xFFFF, 0x80#8)] with p := statusOf 0xEB#8 }
    (fun t => (t.pc, t.sp, pbyte t.p, ramByte t 0x01FB#16)) = some (0x8000#16, 0xFA#8, 0xEF#8, 0xFB#8) := by decide
/-- CF10: the pushed PC is the address of BRK + 2. -/
theorem test_brk_pushed_pc : after { start [(0x0600, 0x00#8), (0x0601, 0xEA#8), (0xFFFF, 0x80#8)] with
    p := statusOf 0xEB#8 } (fun t => (ramByte t 0x01FD#16, ramByte t 0x01FC#16)) = some (0x06#8, 0x02#8) := by decide
/-- CF14: the most negative offset, to another page. -/
theorem test_beq_back : after { start [(0x0600, 0xF0#8), (0x0601, 0x80#8)] with p := statusOf 0x22#8 }
    (fun t => (t.pc, t.cycles)) = some (0x0582#16, 3#8) := by decide
/-- CF22: the page test is against the next instruction's address. -/
theorem test_bpl_next_page : after { start [(0x06FE, 0x10#8)] with pc := 0x06FE#16 } (fun t => (t.pc, t.cycles)) =
    some (0x0700#16, 2#8) := by decide
/-- CF12: not taken. -/
theorem test_bcc_not_taken : after { start [(0x0600, 0x90#8), (0x0601, 0x04#8)] with p := statusOf 0x21#8 }
    (fun t => (t.pc, t.cycles)) = some (0x0602#16, 1#8) := by decide
/-- FL6. -/
theorem test_sed : after { start [(0x0600, 0xF8#8)] with p := statusOf 0x24#8 } (fun t => (t.pc, pbyte t.p)) =
    some (0x0601#16, 0x2C#8) := by decide
/-- AL3. -/
theorem test_adc_overflow : after { start [(0x0600, 0x69#8), (0x0601, 0x01#8)] with a := 0x7F#8, p := statusOf 0x21#8 }
    (fun t => (t.a, pbyte t.p)) = some (0x81#8, 0xE0#8) := by decide
/-- AL5: D has no effect. -/
theorem test_adc_decimal : after { start [(0x0600, 0x69#8), (0x0601, 0x01#8)] with a := 0x09#8, p := statusOf 0x28#8 }
    (fun t => (t.a, pbyte t.p)) = some (0x0A#8, 0x28#8) := by decide
/-- AL8. -/
theorem test_sbc_overflow : after { start [(0x0600, 0xE9#8), (0x0601, 0xB0#8)] with a := 0x50#8, p := statusOf 0x21#8 }
    (fun t => (t.a, pbyte t.p)) = some (0xA0#8, 0xE0#8) := by decide
/-- AL10. -/
theorem test_sbc_borrow : after { start [(0x0600, 0xE9#8), (0x0601, 0x03#8)] with a := 0x05#8 }
    (fun t => (t.a, pbyte t.p)) = some (0x01#8, 0x21#8) := by decide
/-- AL17. -/
theorem test_bit : after { start [(0x0600, 0x24#8), (0x0601, 0x10#8), (0x0010, 0xC0#8)] with a := 0x01#8 }
    (fun t => (t.a, pbyte t.p)) = some (0x01#8, 0xE2#8) := by decide
/-- AL21. -/
theorem test_cmp : after { start [(0x0600, 0xC9#8), (0x0601, 0x01#8)] with a := 0x80#8 } (fun t => (t.a, pbyte t.p)) =
    some (0x80#8, 0x21#8) := by decide
/-- AL24. -/
theorem test_cpy : after (start [(0x0600, 0xC0#8), (0x0601, 0xFF#8)]) (fun t => (t.y, pbyte t.p)) =
    some (0x00#8, 0x20#8) := by decide
/-- AL25. -/
theorem test_inc_wraps : after { start [(0x0600, 0xE6#8), (0x0601, 0x10#8), (0x0010, 0xFF#8)] with
    p := statusOf 0x61#8 } (fun t => (ramByte t 0x0010#16, pbyte t.p)) = some (0x00#8, 0x63#8) := by decide
/-- AL27. -/
theorem test_dec_wraps : after (start [(0x0600, 0xC6#8), (0x0601, 0x10#8)]) (fun t => (ramByte t 0x0010#16, pbyte t.p)) =
    some (0xFF#8, 0xA0#8) := by decide
/-- AL30. -/
theorem test_iny : after { start [(0x0600, 0xC8#8)] with y := 0x7F#8 } (fun t => (t.y, pbyte t.p)) =
    some (0x80#8, 0xA0#8) := by decide
/-- NP2 and NP5: an unassigned opcode is one byte and takes its table cost. -/
theorem test_unassigned_03 : after { start [(0x0600, 0x03#8)] with a := 0x41#8, p := statusOf 0xE3#8 }
    (fun t => (t.a, t.pc, pbyte t.p, t.cycles)) = some (0x41#8, 0x0601#16, 0xE3#8, 7#8) := by decide
/-- NP3: the request of the NOP handler is never charged. -/
theorem test_unassigned_1c : after (start [(0x0600, 0x1C#8)]) (fun t => (t.pc, t.cycles)) = some (0x0601#16, 3#8) := by
  decide

/-! ## Interrupts, reset, the bus -/

/-- R303, R306: NMI first, bit 4 of the pushed byte clear, PC from 0xFFFA. -/
theorem test_nmi_before_irq : after { start [(0xFFFA, 0x00#8), (0xFFFB, 0x90#8)] with
    nmiPending := true, hostCalls := [.tick true], p := statusOf 0xE3#8 }
    (fun t => (t.pc, t.sp, pbyte t.p, ramByte t 0x01FB#16, t.nmiPending, t.cycles)) =
      some (0x9000#16, 0xFA#8, 0xE7#8, 0xE3#8, false, 6#8) := by decide
/-- R303: I = 1 masks IRQ, and the instruction runs. -/
theorem test_irq_masked : after { start [(0x0600, 0xE8#8), (0xFFFF, 0x90#8)] with
    hostCalls := [.tick true], p := statusOf 0x24#8 } (fun t => (t.pc, t.x)) = some (0x0601#16, 0x01#8) := by decide
/-- R341: PC from 0xFFFC, SP = 0xFD, P reads 0x24, 7 ticks to wait. -/
theorem test_reset : after { start [(0xFFFC, 0x00#8), (0xFFFD, 0x80#8)] with hostCalls := [.reset], a := 0x41#8 }
    (fun t => (t.pc, t.a, t.sp, pbyte t.p, t.cycles)) = some (0x8000#16, 0x00#8, 0xFD#8, 0x24#8, 7#8) := by decide
/-- R34: the host reads P with bit 5 set. -/
theorem test_state_read : (stateRead State.reset).p = 0x24#8 := by decide
/-- R52: an unmapped write is dropped. -/
theorem test_unmapped_write : busWrite 0x4000#16 0x41#8 hole = hole := by decide
/-- R51: a peripheral sees the write. -/
theorem test_device_write : (busWrite 0x2000#16 0x41#8 dev).busLog = [.write 0x2000#16 0x41#8] := by decide
/-- R51: the bus sees a write to plain RAM, and a read of plain RAM has no effect. -/
theorem test_ram_accesses : (busWrite 0x0010#16 0x41#8 (start [])).busLog = [.write 0x0010#16 0x41#8] ∧
    (busRead 0x0010#16 (start [])).2 = start [] := by decide
/-- R51, R60: on a bus that shows page 0 again at 0x0800, a write to plain RAM at 0x0010 changes what 0x0810 answers. -/
theorem test_mirror : (busReadOn mirrorBus 0x0810#16 (busWrite 0x0010#16 0x41#8 mirrored)).1 = 0x41#8 := by decide
/-- R52: nothing answers at 0x4000 but OPEN_BUS, after a write too. -/
theorem test_open_bus : (busReadOn mirrorBus 0x4000#16 (busWrite 0x4000#16 0x41#8 mirrored)).1 = 0x40#8 := by decide
/-- The first window that holds an address answers. -/
theorem test_first_window : targetIn [⟨0x2000#16, 0x2007#16, .device⟩, ⟨0x0000#16, 0x7FFF#16, .unmapped⟩] 0x2007#16 =
    .device := by decide
theorem test_second_window : targetIn [⟨0x2000#16, 0x2007#16, .device⟩, ⟨0x0000#16, 0x7FFF#16, .unmapped⟩] 0x2008#16 =
    .unmapped := by decide
theorem test_no_window : targetIn [⟨0x2000#16, 0x2007#16, .device⟩] 0x8000#16 = .ram := by decide
/-- Memory stays canonical: rising addresses, no entry for the value an unlisted address reads as. -/
theorem test_mem_canonical : memWrite (memWrite (memWrite [] 5 0x01#8) 3 0x02#8) 5 0x00#8 = [(3, 0x02#8)] := by decide
/-- A placed instruction runs in the next step, from reset. -/
theorem test_placed : after (State.reset.withFetchWord 24 0x20FFBD) (fun t => (t.opcode, t.addrAbs, t.pc)) =
    some (0xBD#8, 0x20FF#16, 0x0003#16) := by decide
/-- On a bus of peripherals, a placed instruction makes its bytes plain RAM. -/
theorem test_placed_on_devices : after (dev.withFetchWord 16 0x41A9) (fun t => (t.a, t.pc)) =
    some (0x41#8, 0x0002#16) := by decide

/-! ## Witnesses: the hypotheses of the statements can be met -/

/-- The bytes of an instruction decode, and BRK's case is not empty. -/
theorem witness_EncodeOfDecodeIsTheBytes :
    decode [0xA9#8, 0x41#8, 0x07#8] = .ok (.ldaImm 0x41#8, [0x07#8]) ∧
    decode [0x00#8, 0xEA#8, 0x07#8] = .ok (.brk, [0x07#8]) := by decide

/-- A three-byte opcode with one operand byte, with two, and with none after an opcode that needs none. -/
theorem witness_OpcodeByteAloneGivesTheLength :
    [0xAD#8, 0x00#8].length < (table 0xAD#8).length ∧ (table 0xAD#8).length ≤ [0xAD#8, 0x00#8, 0x02#8].length ∧
    (table 0xEA#8).length ≤ [0xEA#8].length ∧
    decode [0xAD#8, 0x00#8, 0x02#8] = .ok (.ldaAbs 0x0200#16, []) := by decide

theorem witness_BaseCostsAreThoseOfTheTimingTables :
    Instr.nop.opcode ∉ unassignedOpcodes ∧ 0xFF#8 ∈ unassignedOpcodes ∧ 0x02#8 ∈ unassignedOpcodes := by decide

/-- Plain RAM at both ends of the address space. -/
theorem witness_PlainRamReadsTheLastByteWritten :
    State.reset.mem.wf = true ∧ State.reset.target 0xFFFF#16 = .ram ∧ 0x0000#16 ≠ (0xFFFF#16 : Word) ∧
    State.reset.target 0x0000#16 = .ram := by decide

theorem mirrorBus_ram (h : List BusAccess) (a : Word) (ha : mirrored.target a = .ram) :
    mirrorBus.after h a = lastWrite (fun _ => 0x00#8) h a := by
  have hm : ¬ (0x0800#16 ≤ a ∧ a ≤ 0x08FF#16) := fun e => by simp [State.target, mirrored, targetIn, e] at ha
  have hu : a ≠ 0x4000#16 := fun e => by subst e; exact absurd ha (by decide)
  induction h with
  | nil => rfl
  | cons e h ih =>
    cases e with
    | read b => exact ih
    | write b v =>
      simp only [Bus.after, Bus.access, mirrorBus, lastWrite] at ih ⊢
      by_cases e : b = a
      · subst e
        simp [hm, hu]
      · have e' : a ≠ b := fun h => e h.symm
        rw [if_neg e, ← ih]
        split
        · rfl
        · simp [e']

/-- A bus with plain RAM, a mirror and an unmapped address, a state on it, and addresses of each kind. -/
theorem witness_WhatIsNotPlainRamSeesTheAccess :
    hole.target 0xFFFF#16 = .unmapped ∧ hole.target 0xFFFF#16 ≠ .ram ∧ dev.target 0x0000#16 = .device ∧
    mirrored.target 0x0010#16 = .ram ∧
    honours mirrorBus mirrored.busMap (fun _ => 0x00#8) ∧ holdsLastWrites (fun _ => 0x00#8) mirrored := by
  refine ⟨by decide, by decide, by decide, by decide, fun h a => ⟨fun ha => ?_, fun ha v => ?_⟩, by decide, fun _ _ => rfl⟩
  · have hm : ¬ (0x0800#16 ≤ a ∧ a ≤ 0x08FF#16) := fun e => by simp [mirrored, targetIn, e] at ha
    have hu : a ≠ 0x4000#16 := fun e => by subst e; exact absurd ha (by decide)
    have := mirrorBus_ram h a ha
    simp only [mirrorBus] at this ⊢
    simp [hm, hu, this]
  · have hu : a = 0x4000#16 := by
      simp only [mirrored, targetIn] at ha
      split at ha
      · exact absurd ha (by decide)
      · split at ha
        · rename_i k
          exact BitVec.le_antisymm k.2 k.1
        · exact absurd ha (by decide)
    simp [mirrorBus, hu]

/-- The pointers 0xFF (IZX, IZY) and 0x02FF (IND) are the last of their page. -/
theorem witness_PointerResolversWrapInTheirPage :
    allRam State.reset ∧
    BitVec.ofNat 16 ((0x02FF#16).toNat / 256 * 256 + ((0x02FF#16).toNat + 1) % 256) = 0x0200#16 :=
  ⟨reset_allRam, by decide⟩

theorem witness_FetchOperandReadsTheOperand :
    allRam State.reset ∧ Instr.aslAcc.operand.mode = .imp ∧ (Instr.ldaImm 0x41#8).operand = .imm 0x41#8 ∧
    (Instr.ldaZp 0xFF#8).operand.mode ≠ .imp ∧ (Instr.ldaZp 0xFF#8).operand.mode ≠ .imm :=
  ⟨reset_allRam, by decide⟩

theorem witness_FetchReadsEachInstructionByteOnce : allDevice dev := dev_allDevice

theorem witness_ResolversReadOnlyTheirPointer : allDevice dev := dev_allDevice

/-- One instruction for each clause, with an operand in memory and an immediate one. -/
theorem witness_HandlersMakeOnlyTheirAccesses :
    allDevice dev ∧
    (Instr.ldaImm 0x41#8).handler ∈ [Handler.adc, .and, .bit, .cmp, .cpx, .cpy, .eor, .lda, .ldx, .ldy, .ora, .sbc] ∧
    (Instr.ldaImm 0x41#8).operand.mode = .imm ∧ (Instr.adcAbs 0xFFFF#16).operand.mode ≠ .imm ∧
    (Instr.adcAbs 0xFFFF#16).handler ∈ [Handler.adc, .and, .bit, .cmp, .cpx, .cpy, .eor, .lda, .ldx, .ldy, .ora, .sbc] ∧
    Instr.aslAcc.handler ∈ [Handler.asl, .lsr, .rol, .ror, .inc, .dec] ∧ Instr.aslAcc.operand.mode = .imp ∧
    (Instr.decZp 0x00#8).handler ∈ [Handler.asl, .lsr, .rol, .ror, .inc, .dec] ∧
    (Instr.decZp 0x00#8).operand.mode ≠ .imp ∧
    (Instr.staZp 0x00#8).handler = .sta ∧ (Instr.stxZp 0x00#8).handler = .stx ∧ (Instr.styZp 0x00#8).handler = .sty ∧
    Instr.pha.handler = .pha ∧ Instr.php.handler = .php ∧ Instr.pla.handler ∈ [Handler.pla, .plp] ∧
    (Instr.jsr 0xFFFF#16).handler = .jsr ∧ Instr.rts.handler = .rts ∧ Instr.rti.handler = .rti ∧
    Instr.brk.handler = .brk ∧
    Instr.unassigned02.handler ∈ [Handler.bcc, .bcs, .beq, .bmi, .bne, .bpl, .bvc, .bvs, .clc, .cld, .cli, .clv, .sec,
      .sed, .sei, .dex, .dey, .inx, .iny, .jmp, .nop, .tax, .tay, .tsx, .txa, .txs, .tya, .xxx] :=
  ⟨dev_allDevice, by decide⟩

/-- A store to the byte after it: `STA $0603` at 0x0600. -/
theorem witness_StoredByteIsTheNextOpcodeFetched :
    let s := { start [] with pc := 0x0601#16 }
    encodes .sta (.staAbs 0x0603#16) ∧ encodes .stx (.stxAbs 0x0603#16) ∧ encodes .sty (.styAbs 0x0603#16) ∧
    allRam s ∧ s.mem.wf = true ∧ ea (.staAbs 0x0603#16) s = pcPast (.staAbs 0x0603#16) s ∧
    ea (.stxAbs 0x0603#16) s = pcPast (.stxAbs 0x0603#16) s ∧
    ea (.styAbs 0x0603#16) s = pcPast (.styAbs 0x0603#16) s := by
  refine ⟨?_, ?_, ?_, fun _ => rfl, ?_, ?_, ?_, ?_⟩ <;> (try unfold encodes) <;> decide

theorem witness_LoadsTakeTheOperand :
    encodes .lda (.ldaAbx 0xFFFF#16) ∧
    encodes .ldx (.ldxZpy 0xFF#8) ∧
    encodes .ldy (.ldyImm 0x00#8) := by
  unfold encodes
  decide

theorem witness_StoresWriteTheRegister :
    encodes .sta (.staIzy 0xFF#8) ∧
    encodes .stx (.stxZpy 0xFF#8) ∧
    encodes .sty (.styAbs 0xFFFF#16) ∧
    State.reset.mem.wf = true ∧ State.reset.target (ea (.styAbs 0xFFFF#16) State.reset) = .ram := by
  unfold encodes
  decide

theorem witness_TransfersCopyOneRegister :
    encodes .tax (.tax) ∧
    encodes .tay (.tay) ∧
    encodes .txa (.txa) ∧
    encodes .tya (.tya) ∧
    encodes .tsx (.tsx) ∧
    encodes .txs (.txs) := by
  unfold encodes
  decide

theorem witness_PushesWriteThenDecrement :
    encodes .pha (.pha) ∧
    encodes .php (.php) ∧
    State.reset.mem.wf = true ∧ State.reset.target (stackByte 0x00#8) = .ram := by
  unfold encodes
  decide

theorem witness_PullsIncrementThenRead :
    encodes .pla (.pla) ∧
    encodes .plp (.plp) ∧
    State.reset.target (stackByte (0xFF#8 + 1#8)) = .ram := by
  unfold encodes
  decide

theorem witness_PhaThenPlaRestoresA :
    State.reset.mem.wf = true ∧ State.reset.target (stackByte State.reset.sp) = .ram := by decide

theorem witness_ShiftsOfTheAccumulator :
    encodes .asl (.aslAcc) ∧
    encodes .lsr (.lsrAcc) ∧
    encodes .rol (.rolAcc) ∧
    encodes .ror (.rorAcc) ∧
    Instr.aslAcc.operand.mode = .imp ∧ Instr.lsrAcc.operand.mode = .imp ∧ Instr.rolAcc.operand.mode = .imp ∧
    Instr.rorAcc.operand.mode = .imp := by
  unfold encodes
  decide

theorem witness_ShiftsOfMemory :
    encodes .asl (.aslAbx 0xFFFF#16) ∧
    encodes .lsr (.lsrZp 0x00#8) ∧
    encodes .rol (.rolZpx 0xFF#8) ∧
    encodes .ror (.rorAbs 0x0200#16) ∧
    (Instr.aslAbx 0xFFFF#16).operand.mode ≠ .imp ∧ (Instr.lsrZp 0x00#8).operand.mode ≠ .imp ∧
    (Instr.rolZpx 0xFF#8).operand.mode ≠ .imp ∧ (Instr.rorAbs 0x0200#16).operand.mode ≠ .imp ∧
    State.reset.mem.wf = true ∧ State.reset.target (ea (.aslAbx 0xFFFF#16) State.reset) = .ram := by
  unfold encodes
  decide

theorem witness_AdcIsTheExactNineBitSum :
    encodes .adc (.adcIzx 0xFF#8) ∧
    encodes .adc (.adcImm 0x80#8) := by
  unfold encodes
  decide

theorem witness_SbcSubtractsWithBorrow :
    encodes .sbc (.sbcIzy 0xFF#8) ∧
    encodes .sbc (.sbcImm 0x80#8) := by
  unfold encodes
  decide

theorem witness_LogicWritesAAndSetsZN :
    encodes .and (.andImm 0x00#8) ∧
    encodes .ora (.oraAby 0xFFFF#16) ∧
    encodes .eor (.eorIzy 0xFF#8) := by
  unfold encodes
  decide

theorem witness_BitTestsWithoutWritingA :
    encodes .bit (.bitZp 0xFF#8) ∧
    encodes .bit (.bitAbs 0xFFFF#16) := by
  unfold encodes
  decide

theorem witness_ComparesSetFlagsOnly :
    encodes .cmp (.cmpIzy 0xFF#8) ∧
    encodes .cpx (.cpxImm 0x00#8) ∧
    encodes .cpy (.cpyAbs 0xFFFF#16) := by
  unfold encodes
  decide

theorem witness_IncDecWriteMemoryBack :
    encodes .inc (.incAbx 0xFFFF#16) ∧
    encodes .dec (.decZp 0x00#8) ∧
    State.reset.mem.wf = true ∧ State.reset.target (ea (.incAbx 0xFFFF#16) State.reset) = .ram := by
  unfold encodes
  decide

theorem witness_IndexRegistersStepByOne :
    encodes .inx (.inx) ∧
    encodes .iny (.iny) ∧
    encodes .dex (.dex) ∧
    encodes .dey (.dey) := by
  unfold encodes
  decide

theorem witness_DecimalFlagChangesNoResult :
    encodes .adc (.adcImm 0x99#8) ∧
    encodes .sbc (.sbcImm 0x99#8) := by
  unfold encodes
  decide

theorem witness_FlagInstructionsWriteOneFlag :
    encodes .clc (.clc) ∧
    encodes .cld (.cld) ∧
    encodes .cli (.cli) ∧
    encodes .clv (.clv) ∧
    encodes .sec (.sec) ∧
    encodes .sed (.sed) ∧
    encodes .sei (.sei) := by
  unfold encodes
  decide

theorem witness_NopAndUnassignedOnlyPassTime :
    Instr.nop.opcode = 0xEA#8 ∧ Instr.unassigned02.opcode ∈ unassignedOpcodes ∧
    Instr.unassignedFF.opcode ∈ unassignedOpcodes := by decide

theorem witness_JmpGoesToTheResolvedAddress : allRam State.reset := reset_allRam

theorem witness_RtsReturnsPastThePulledAddress : allRam State.reset := reset_allRam

theorem witness_RtiRestoresFlagsAndPc : allRam State.reset := reset_allRam

theorem witness_JsrPushesTheLastByteOfTheCall : allRam State.reset ∧ State.reset.mem.wf = true :=
  ⟨reset_allRam, by decide⟩

theorem witness_BrkEntersThroughTheIrqVector : allRam State.reset ∧ State.reset.mem.wf = true :=
  ⟨reset_allRam, by decide⟩

theorem witness_InterruptEntryPushesPcAndStatus : allRam State.reset ∧ State.reset.mem.wf = true :=
  ⟨reset_allRam, by decide⟩

/-- The state the RTI runs in can be the one the entry left, or one that the handler has changed. -/
theorem witness_RtiAfterAnEntryResumes :
    let e := interrupt 0xFFFE#16 State.reset
    let u := { e with a := 0x41#8, pc := 0x9000#16 }
    allRam State.reset ∧ State.reset.mem.wf = true ∧ allRam e ∧ allRam u ∧ u.sp = e.sp ∧
    ramByte u (stackByte (e.sp + 1#8)) = ramByte e (stackByte (e.sp + 1#8)) ∧
    ramByte u (stackByte (e.sp + 2#8)) = ramByte e (stackByte (e.sp + 2#8)) ∧
    ramByte u (stackByte (e.sp + 3#8)) = ramByte e (stackByte (e.sp + 3#8)) :=
  ⟨reset_allRam, by decide, fun _ => rfl, fun _ => rfl, rfl, rfl, rfl, rfl⟩

/-- The state the RTS runs in can be the one the JSR left. -/
theorem witness_JsrThenRtsReturnsAfterTheCall :
    allRam State.reset ∧ State.reset.mem.wf = true ∧
    ∃ t u : State, exec (.jsr 0x1234#16) State.reset = .next t ∧ allRam u ∧ u.sp = t.sp ∧
      ramByte u (stackByte (t.sp + 1#8)) = ramByte t (stackByte (t.sp + 1#8)) ∧
      ramByte u (stackByte (t.sp + 2#8)) = ramByte t (stackByte (t.sp + 2#8)) := by
  refine ⟨reset_allRam, by decide, ?_⟩
  obtain ⟨t, ht⟩ := exec_total (.jsr 0x1234#16) State.reset
  refine ⟨t, t, ht, fun a => ?_, rfl, rfl, rfl⟩
  rw [State.target, (exec_keeps ht).1.map]
  rfl

/-- Every branch, taken and not taken, within its page and to another (PC at the page's last byte). -/
theorem witness_BranchesTestTheirFlag :
    encodes .bcc (.bcc 0x7F#8) ∧ encodes .bcs (.bcs 0x80#8) ∧ encodes .beq (.beq 0x00#8) ∧ encodes .bmi (.bmi 0xFF#8) ∧
    encodes .bne (.bne 0x01#8) ∧ encodes .bpl (.bpl 0xFE#8) ∧ encodes .bvc (.bvc 0x02#8) ∧ encodes .bvs (.bvs 0x03#8) ∧
    branchTaken .bne (statusOf 0x00#8) = some true ∧ branchTaken .bne (statusOf 0x02#8) ≠ some true ∧
    branchTaken .bvs (statusOf 0x40#8) = some true ∧ branchTaken .bvs (statusOf 0x00#8) ≠ some true := by
  unfold encodes
  decide

/-- `LDA #$41` at 0x0600, with IRQ asserted and masked. -/
theorem witness_StepRunsTheDecodedInstruction :
    let s := { start [(0x0600, 0xA9#8), (0x0601, 0x41#8)] with hostCalls := [.tick true], p := statusOf 0x04#8 }
    s.cycles = 0#8 ∧ s.nmiPending = false ∧ ticksNext true [] s ∧ (true = true → s.p.i = true) ∧
    s.target s.pc = .ram ∧ s.target (s.pc + 1#16) = .ram ∧ s.target (s.pc + 2#16) = .ram ∧
    decode [ramByte s s.pc, ramByte s (s.pc + 1#16), ramByte s (s.pc + 2#16)] =
      .ok (.ldaImm 0x41#8, [0x00#8]) := by
  unfold ticksNext
  decide

/-- An opcode of each kind: a page-cross opcode, on a page cross and within the page, a branch, and another. -/
theorem witness_ExactlyTheseOpcodesHaveAVariableCharge :
    (Instr.ldaAbx 0x00FF#16).opcode ∈ pageCrossOpcodes ∧ (Instr.bne 0x00#8).opcode ∈ branchOpcodes ∧
    Instr.nop.opcode ∉ pageCrossOpcodes ∧ Instr.nop.opcode ∉ branchOpcodes ∧
    pageCrossed (.ldaAbx 0x00FF#16) { State.reset with x := 0x01#8 } = true ∧
    pageCrossed (.ldaAbx 0x00FF#16) State.reset = false := by decide

/-- A resolver that requests the cycle. -/
theorem witness_ResolversWriteNoRegisterAndNoMemory :
    (resolve (.abx 0x00FF#16) { State.reset with x := 0x01#8 }).1 = true := by decide

/-- From reset, with the host's own tick and with none listed. -/
theorem witness_MidInstructionTickOnlyCountsDown :
    State.reset.cycles ≠ 0#8 ∧ ticksNext false [] State.reset ∧
    ticksNext true [.nmi] { State.reset with hostCalls := [.tick true, .nmi] } := by
  unfold ticksNext
  decide

/-- The hypotheses hold of an IRQ entry under an asserted level that drops, with the 7 ticks it takes and a reset after
them, and, with no call listed, of an instruction and of an NMI entry. -/
theorem witness_ChargeOfNTakesExactlyNTicks :
    let levels := [true, true, false, false, false, false]
    let s := { start [] with hostCalls := .tick true :: (levels.map HostCall.tick ++ [HostCall.reset]) }
    let t := interrupt 0xFFFE#16 { s with hostCalls := levels.map HostCall.tick ++ [HostCall.reset] }
    (s.cycles = 0#8 ∧ boundaryAction true { s with hostCalls := levels.map HostCall.tick ++ [HostCall.reset] } = .next t ∧
      t.cycles.toNat ≤ levels.length + 1) ∧
    (start []).cycles = 0#8 ∧ (start []).hostCalls = [] ∧ (∃ t, boundaryAction false (start []) = .next t) ∧
    ∃ t, boundaryAction false { start [] with nmiPending := true } = .next t :=
  ⟨⟨rfl, rfl, by decide⟩, rfl, rfl, exec_total (fetch (start [])).1 (fetch (start [])).2, _, rfl⟩

/-- A run of two ticks: `INX` at 0x0600, STOP = 0x0601. Two ticks are within a fuel of 2 and not of 1. -/
theorem witness_RunToStopEndsAtTheFirstBoundaryAtStop :
    (runToStop 0x0601#16 2 (start [(0x0600, 0xE8#8)])).map (fun r => (r.1, r.2.x)) = some (2, 0x01#8) ∧
    (runToStop 0x0601#16 1 (start [(0x0600, 0xE8#8)])).isNone = true ∧
    (runToStop 0x0600#16 0 (start [])).map (fun r => r.1) = some 0 := by decide

/-- The three cases of a boundary, and both ways to be in the third. -/
theorem witness_NmiBeforeIrqBeforeTheInstruction :
    let s := { start [] with hostCalls := [.tick true] }
    s.cycles = 0#8 ∧ ticksNext true [] s ∧ s.nmiPending = false ∧ s.p.i = false ∧
    ticksNext true [] { s with nmiPending := true } ∧ { s with nmiPending := true }.nmiPending = true ∧
    { s with p := Status.reset }.p.i = true ∧ ticksNext false [] (start []) := by
  unfold ticksNext
  decide

theorem witness_NmiCallOnlySetsTheLatch :
    { State.reset with hostCalls := [.nmi, .reset] }.hostCalls = .nmi :: [.reset] := by decide

theorem witness_ResetLoadsEveryElement :
    { State.reset with hostCalls := [.reset] }.hostCalls = .reset :: [] ∧
    { dev with hostCalls := [.reset] }.hostCalls = .reset :: [] ∧ allRam { State.reset with hostCalls := [.reset] } ∧
    allDevice { dev with hostCalls := [.reset] } :=
  ⟨rfl, rfl, fun _ => rfl, dev_allDevice⟩

theorem witness_EveryStepKeepsTheInvariant : Inv State.reset ∧ ∃ t, step State.reset = .next t :=
  ⟨⟨by decide, by decide⟩, _, rfl⟩

theorem witness_EveryStepKeepsTheMapAndExtendsTheLog :
    (∃ t, step { mirrored with hostCalls := [.nmi] } = .next t) ∧
    holdsLastWrites (fun _ => 0x00#8) { mirrored with hostCalls := [.nmi] } :=
  ⟨⟨_, rfl⟩, by decide, fun _ _ => rfl⟩

/-- Each clause has an instruction outside its list. -/
theorem witness_OnlyTheNamedInstructionsWriteEachFlag :
    Instr.nop.handler ∉ [Handler.adc, .sbc, .cmp, .cpx, .cpy, .asl, .lsr, .rol, .ror, .clc, .sec, .plp, .rti] ∧
    Instr.txs.handler ∉ [Handler.lda, .ldx, .ldy, .tax, .tay, .txa, .tya, .tsx, .pla, .asl, .lsr, .rol, .ror, .adc, .sbc,
      .and, .ora, .eor, .cmp, .cpx, .cpy, .inc, .dec, .inx, .iny, .dex, .dey, .bit, .plp, .rti] ∧
    Instr.php.handler ∉ [Handler.sei, .cli, .plp, .rti, .brk] ∧ Instr.brk.handler ∉ [Handler.sed, .cld, .plp, .rti] ∧
    Instr.brk.handler ∉ [Handler.plp, .rti] ∧
    (Instr.cmpImm 0x80#8).handler ∉ [Handler.adc, .sbc, .bit, .clv, .plp, .rti] := by decide

/-- Each clause has an instruction outside its list. -/
theorem witness_OnlyTheNamedInstructionsWriteEachRegister :
    (Instr.aslZp 0x10#8).handler ∉ [Handler.lda, .pla, .txa, .tya, .adc, .sbc, .and, .ora, .eor] ∧
    ¬ ((Instr.aslZp 0x10#8).handler ∈ [Handler.asl, .lsr, .rol, .ror] ∧ (Instr.aslZp 0x10#8).operand.mode = .imp) ∧
    (Instr.stxZp 0x10#8).handler ∉ [Handler.ldx, .tax, .tsx, .inx, .dex] ∧
    Instr.tya.handler ∉ [Handler.ldy, .tay, .iny, .dey] ∧
    Instr.tsx.handler ∉ [Handler.txs, .pha, .php, .pla, .plp, .jsr, .rts, .rti, .brk] ∧
    (Instr.ldaZp 0x10#8).operand.mode ≠ .rel ∧ Instr.inx.operand.mode = .imp ∧
    (Instr.bne 0x80#8).operand.mode = .rel ∧ branchTaken (Instr.bne 0x80#8).handler (statusOf 0x02#8) ≠ some true ∧
    (Instr.staZp 0x10#8).operand.mode ≠ .imp ∧ (Instr.staZp 0x10#8).handler ∉ operandReaders ∧
    Instr.brk.operand.mode ≠ .imp ∧ Instr.brk.handler ∉ operandReaders ∧
    Instr.inx.handler ∉ [Handler.asl, .lsr, .rol, .ror, .adc, .sbc, .bit, .cmp, .cpx, .cpy, .inc, .dec] ∧
    Instr.inx.handler ∉ [Handler.jmp, .jsr, .rts, .rti, .brk, .bcc, .bcs, .beq, .bmi, .bne, .bpl, .bvc, .bvs] := by
  decide

theorem witness_PlacedInstructionRunsNext : State.reset.mem.wf = true ∧ dev.mem.wf = true := by decide

end Sys2Proof.Tests
end

section
/-! PROOFS. The state family (10_state.md): the status byte (R34, R35), which handler writes what (R21 to R24, R26 to R33,
R36 to R40), and the invariant (R41). -/

namespace Sys2Proof.Machine

open Sys2Proof.Claims

/-! ## The status byte -/

/-- The combined write ignores bit 5 and the combined read sets it (R31, R34, R35): bit by bit. -/
theorem pbyte_statusOf (v : Byte) : pbyte (statusOf v) = v ||| 0x20#8 := by
  apply BitVec.eq_of_getLsbD_eq
  intro k hk
  interval_cases k <;> simp only [pbyte, statusOf, BitVec.getLsbD_append] <;> simp

theorem statusOf_pbyte (p : Status) : statusOf (pbyte p) = p := by
  simp only [statusOf, pbyte, BitVec.getLsbD_append]
  simp

theorem pbyte_toNat (p : Status) : (pbyte p).toNat =
    bit p.n * 128 + bit p.v * 64 + 32 + bit p.b * 16 + bit p.d * 8 + bit p.i * 4 + bit p.z * 2 + bit p.c := by
  obtain ⟨c, z, i, d, b, v, n⟩ := p
  cases c <;> cases z <;> cases i <;> cases d <;> cases b <;> cases v <;> cases n <;> rfl

/-- Settles O23, from the round trips of the combined read and write. -/
theorem statusByteReadsBackWithBitFiveSet : Obligations.StatusByteReadsBackWithBitFiveSet := by
  unfold Obligations.StatusByteReadsBackWithBitFiveSet
  refine ⟨fun b => ?_, statusOf_pbyte, pbyte_toNat⟩
  rw [pbyte_statusOf, BitVec.toNat_or]
  rfl

/-! ## Branches: the handlers that read their condition from P (R185 to R193) -/

/-- A branch not taken changes nothing (R185). -/
theorem branch_false (s : State) : branch false s = s := rfl

/-- A branch adds at most 2 to `cycles` (R185). -/
theorem branch_cycles_le (c : Bool) (s : State) : ∃ k : Byte, k ≤ 2#8 ∧ (branch c s).cycles = s.cycles + k := by
  cases c with
  | false => exact ⟨0#8, by decide, (BitVec.add_zero _).symm⟩
  | true =>
    refine ⟨if highByte (s.pc + s.addrRel) = highByte s.pc then 1#8 else 2#8, ?_, rfl⟩
    split <;> decide

/-- The eight branches are one body, told apart by their condition. -/
theorem handlerFn_of_branchTaken {h : Handler} {o : Operand} {s : State} {c : Bool} (hc : branchTaken h s.p = some c) :
    handlerFn h o s = (false, branch c s) := by
  cases h
  case bcc | bcs | beq | bmi | bne | bpl | bvc | bvs => exact Option.some.inj hc ▸ rfl
  all_goals cases hc

/-- Every branch is in mode REL (R86). -/
theorem mode_of_branchTaken {i : Instr} {p : Status} {c : Bool} (hc : branchTaken i.handler p = some c) :
    i.operand.mode = .rel := by
  have hw := wellFormed_all i
  simp only [Instr.wellFormed, Form.wellFormed, Instr.form, Bool.and_eq_true] at hw
  obtain ⟨hm, -⟩ := hw
  generalize i.handler = h at hc hm
  cases h
  case bcc | bcs | beq | bmi | bne | bpl | bvc | bvs => simpa [admits] using hm
  all_goals cases hc

/-! ## What each handler leaves alone -/

/-- The flags a handler does not write (R26 to R33). The cases go by the flag computation the handlers share. -/
theorem handlerFn_flags (h : Handler) (o : Operand) (s : State) :
    (h ∉ [.adc, .sbc, .cmp, .cpx, .cpy, .asl, .lsr, .rol, .ror, .clc, .sec, .plp, .rti] →
      (handlerFn h o s).2.p.c = s.p.c) ∧
    (h ∉ [.lda, .ldx, .ldy, .tax, .tay, .txa, .tya, .tsx, .pla, .asl, .lsr, .rol, .ror, .adc, .sbc, .and, .ora, .eor,
        .cmp, .cpx, .cpy, .inc, .dec, .inx, .iny, .dex, .dey, .bit, .plp, .rti] →
      (handlerFn h o s).2.p.z = s.p.z ∧ (handlerFn h o s).2.p.n = s.p.n) ∧
    (h ∉ [.sei, .cli, .plp, .rti, .brk] → (handlerFn h o s).2.p.i = s.p.i) ∧
    (h ∉ [.sed, .cld, .plp, .rti] → (handlerFn h o s).2.p.d = s.p.d) ∧
    (h ∉ [.plp, .rti] → (handlerFn h o s).2.p.b = s.p.b) ∧
    (h ∉ [.adc, .sbc, .bit, .clv, .plp, .rti] → (handlerFn h o s).2.p.v = s.p.v) := by
  cases h
  case plp | rti => simp
  case adc | sbc => simp [handlerFn, opAdc, opSbc, addToA, withSum, withZN]
  case asl | lsr | rol | ror => simp [handlerFn, opAsl, opLsr, opRol, opRor, withShift, withZN]
  case cmp | cpx | cpy => simp [handlerFn, opCmp, opCpx, opCpy, compareWith, withCompare, withZN]
  case bit => simp [handlerFn, opBit, withBit]
  case and | ora | eor => simp [handlerFn, opAnd, opOra, opEor, logicToA, withZN]
  case inc | dec | inx | iny | dex | dey =>
    simp [handlerFn, opInc, opDec, opInx, opIny, opDex, opDey, withZN]
  case lda | ldx | ldy | tax | tay | txa | tya | tsx | pla =>
    simp [handlerFn, opLda, opLdx, opLdy, opTax, opTay, opTxa, opTya, opTsx, opPla, withZN]
  case clc | sec | cli | sei | cld | sed | clv | brk =>
    simp [handlerFn, opClc, opSec, opCli, opSei, opCld, opSed, opClv, opBrk]
  case bcc | bcs | beq | bmi | bne | bpl | bvc | bvs =>
    simp [handlerFn, opBcc, opBcs, opBeq, opBmi, opBne, opBpl, opBvc, opBvs]
  case sta | stx | sty | pha | php | txs | jmp | jsr | rts | nop | xxx =>
    simp [handlerFn, opSta, opStx, opSty, opPha, opPhp, opTxs, opJmp, opJsr, opRts, opNop, opXxx]

/-- The registers and the working state a handler does not write (R21 to R24, R37 to R40). The cases go by the families
of files 42 to 48. -/
theorem handlerFn_registers (h : Handler) (o : Operand) (s : State) :
    (h ∉ [.lda, .pla, .txa, .tya, .adc, .sbc, .and, .ora, .eor] → ¬ (h ∈ [.asl, .lsr, .rol, .ror] ∧ o.mode = .imp) →
      (handlerFn h o s).2.a = s.a) ∧
    (h ∉ [.ldx, .tax, .tsx, .inx, .dex] → (handlerFn h o s).2.x = s.x) ∧
    (h ∉ [.ldy, .tay, .iny, .dey] → (handlerFn h o s).2.y = s.y) ∧
    (h ∉ [.txs, .pha, .php, .pla, .plp, .jsr, .rts, .rti, .brk] → (handlerFn h o s).2.sp = s.sp) ∧
    (handlerFn h o s).2.addrRel = s.addrRel ∧
    (branchTaken h s.p ≠ some true → (handlerFn h o s).2.addrAbs = s.addrAbs) ∧
    (h ∉ operandReaders → (handlerFn h o s).2.fetched = s.fetched) ∧
    (h ∉ [.asl, .lsr, .rol, .ror, .adc, .sbc, .bit, .cmp, .cpx, .cpy, .inc, .dec] →
      (handlerFn h o s).2.temp = s.temp) ∧
    (h ∉ [.jmp, .jsr, .rts, .rti, .brk, .bcc, .bcs, .beq, .bmi, .bne, .bpl, .bvc, .bvs] →
      (handlerFn h o s).2.pc = s.pc) := by
  cases h
  case lda | ldx | ldy => simp [handlerFn, opLda, opLdx, opLdy, operandReaders]
  case sta | stx | sty => simp [handlerFn, opSta, opStx, opSty]
  case tax | tay | txa | tya | tsx | txs => simp [handlerFn, opTax, opTay, opTxa, opTya, opTsx, opTxs]
  case pha | php | pla | plp => simp [handlerFn, opPha, opPhp, opPla, opPlp]
  case asl | lsr | rol | ror =>
    simp +contextual [handlerFn, opAsl, opLsr, opRol, opRor, operandReaders, shiftTo_a]
  case jmp | jsr | rts | rti | brk => simp [handlerFn, opJmp, opJsr, opRts, opRti, opBrk]
  case bcc | bcs | beq | bmi | bne | bpl | bvc | bvs =>
    simp +contextual [handlerFn, opBcc, opBcs, opBeq, opBmi, opBne, opBpl, opBvc, opBvs, branchTaken, branch_false]
  case clc | sec | cli | sei | cld | sed | clv =>
    simp [handlerFn, opClc, opSec, opCli, opSei, opCld, opSed, opClv]
  case adc | sbc | and | ora | eor => simp [handlerFn, opAdc, opSbc, opAnd, opOra, opEor, operandReaders]
  case cmp | cpx | cpy | bit => simp [handlerFn, opCmp, opCpx, opCpy, opBit, operandReaders]
  case inc | dec => simp [handlerFn, opInc, opDec, operandReaders]
  case inx | iny | dex | dey => simp [handlerFn, opInx, opIny, opDex, opDey]
  case nop | xxx => simp [handlerFn, opNop, opXxx]

/-- A handler that is no branch does not write `cycles` (R41, R185). -/
theorem handlerFn_cycles {h : Handler} {o : Operand} {s : State} (hc : branchTaken h s.p = none) :
    (handlerFn h o s).2.cycles = s.cycles := by
  cases h
  case bcc | bcs | beq | bmi | bne | bpl | bvc | bvs => cases hc
  case asl | lsr | rol | ror => exact (shiftTo_cycles _ _ _ _).trans (fetchOperand_cycles o s)
  case inc | dec => exact (storeResult_cycles _ _).trans (fetchOperand_cycles o s)
  case sta | stx | sty => exact busWrite_cycles _ _ _
  case pha | php => exact push_cycles _ _
  case pla | plp => exact pull_cycles _
  case jsr => exact pushWord_cycles _ _
  case rts => exact pullWord_cycles _
  case brk => exact enterInterrupt_cycles _ _ _
  case rti => exact returnFromInterrupt_cycles _
  case adc | sbc | and | ora | eor | bit | cmp | cpx | cpy | lda | ldx | ldy => exact fetchOperand_cycles o s
  all_goals rfl

/-- Settles O58: the resolver writes no flag, and the handler only those of its lists. -/
theorem onlyTheNamedInstructionsWriteEachFlag : Obligations.OnlyTheNamedInstructionsWriteEachFlag := by
  unfold Obligations.OnlyTheNamedInstructionsWriteEachFlag
  intro i s
  refine ⟨_, exec_next i s, ?_⟩
  simpa only [State.setCycles_p, atHandler_p] using handlerFn_flags i.handler i.operand (atHandler i s)

/-- Settles O59: what the resolver leaves alone, then what the handler does. -/
theorem onlyTheNamedInstructionsWriteEachRegister : Obligations.OnlyTheNamedInstructionsWriteEachRegister := by
  unfold Obligations.OnlyTheNamedInstructionsWriteEachRegister
  intro i s
  obtain ⟨a, x, y, sp, addrRel, addrAbs, fetched, temp, pc⟩ := handlerFn_registers i.handler i.operand (atHandler i s)
  obtain ⟨opcode, -⟩ := handlerFn_outer i.handler i.operand (atHandler i s)
  simp only [atHandler_a, atHandler_x, atHandler_y, atHandler_sp, atHandler_p, atHandler_temp, atHandler_opcode]
    at a x y sp addrAbs temp opcode
  have not_taken (himp : i.operand.mode = .imp) : branchTaken i.handler s.p ≠ some true := fun hc => by
    simp [mode_of_branchTaken hc] at himp
  refine ⟨_, exec_next i s, a, x, y, sp, opcode, ?_, ?_, ?_, ?_, temp, ?_⟩
  · exact fun hm => addrRel.trans (atHandler_addrRel hm)
  · exact fun hm => (addrAbs (not_taken hm)).trans (atHandler_addrAbs (.inl hm))
  · exact fun hm hc => (addrAbs hc).trans (atHandler_addrAbs (.inr hm))
  · intro hm hr
    have ho : i.operand ≠ .imp := fun e => hm (by rw [e, Operand.mode])
    exact (fetched hr).trans (atHandler_fetched.trans (if_neg ho))
  · exact fun hc => (pc hc).trans (atHandler_pc i s)

/-! ## The invariant -/

/-- The base costs of R253: 2 to 8, exactly 2 for a branch, and at most 7 in every mode but IMP. -/
theorem entry_base_bounds (i : Instr) :
    2#8 ≤ i.entry.base ∧ i.entry.base ≤ 8#8 ∧ (i.operand.mode = .rel → i.entry.base = 2#8) ∧
      (i.operand.mode ≠ .imp → i.entry.base ≤ 7#8) :=
  of_decide_eq_true (by cases i <;> rfl)

/-- The charge of an instruction is 1 to 8 (R263): a branch costs 2 and at most 2 more, and what can cross a page, which
is never in mode IMP, costs at most 7 and one more. -/
theorem exec_cycles_bounds {i : Instr} {s t : State} (h : exec i s = .next t) : t.cycles ≠ 0#8 ∧ t.cycles ≤ 8#8 := by
  obtain ⟨two, eight, rel, seven⟩ := entry_base_bounds i
  rw [exec_next] at h
  rw [← Host.Outcome.next.inj h, State.setCycles_cycles]
  cases hc : branchTaken i.handler (atHandler i s).p with
  | some c =>
    obtain ⟨k, hk, e⟩ := branch_cycles_le c (atHandler i s)
    rw [handlerFn_of_branchTaken hc, e, atHandler_cycles, rel (mode_of_branchTaken hc), Bool.and_false,
      if_neg Bool.false_ne_true]
    bv_omega
  | none =>
    rw [handlerFn_cycles hc, atHandler_cycles]
    cases hp : pageCrossed i s with
    | false =>
      rw [Bool.false_and, if_neg Bool.false_ne_true]
      bv_omega
    | true =>
      have hs : i.entry.base ≤ 7#8 := seven (by rcases pageCrossed_mode hp with e | e | e <;> simp [e])
      split <;> bv_omega

theorem countDown_le {c : Byte} (h0 : c ≠ 0#8) (h8 : c ≤ 8#8) : c - 1#8 ≤ 7#8 := by bv_omega

/-- A tick counts down what is left of a charge, or the charge it has just made (R261, R264). -/
theorem tick_cycles_le {irq : Bool} {s t : State} (hs : s.cycles ≤ 7#8) (h : tick irq s = .next t) :
    t.cycles ≤ 7#8 := by
  have entry (v : Word) (u : State) : (interrupt v u).cycles - 1#8 ≤ 7#8 := by
    rw [(interrupt_frame v u).1]
    decide
  rcases tick_cases h with ⟨h0, rfl⟩ | ⟨-, u, rfl, ⟨-, rfl⟩ | ⟨-, -, -, rfl⟩ | ⟨-, -, e⟩⟩
  · exact countDown_le h0 (by bv_omega)
  · exact entry _ _
  · exact entry _ _
  · obtain ⟨h0, h8⟩ := exec_cycles_bounds e
    exact countDown_le h0 h8

theorem step_cycles_le {s t : State} (hs : s.cycles ≤ 7#8) (h : step s = .next t) : t.cycles ≤ 7#8 := by
  rcases step_cases h with ⟨irq, calls, -, hk⟩ | ⟨calls, -, rfl⟩ | ⟨calls, -, rfl⟩
  · exact tick_cycles_le (s := { s with hostCalls := calls }) hs hk
  · exact BitVec.le_refl Config.resetCycles
  · exact hs

/-- Settles O55: nothing is written yet, and RESET_CYCLES is 7 (R341). -/
theorem resetMeetsTheInvariant : Obligations.ResetMeetsTheInvariant := by
  unfold Obligations.ResetMeetsTheInvariant
  exact ⟨rfl, by decide⟩

/-- Settles O56: a step accesses the memory only through the bus, and the charge it makes or counts down stays in its
bounds. -/
theorem everyStepKeepsTheInvariant : Obligations.EveryStepKeepsTheInvariant := by
  unfold Obligations.EveryStepKeepsTheInvariant
  rintro s t ⟨hmem, hcycles⟩ h
  obtain ⟨accesses, -⟩ := step_keeps h
  exact ⟨accesses.wf hmem, step_cycles_le hcycles h⟩

end Sys2Proof.Machine
end

section
/-! PROOFS. The memory family (20_memory.md): the bus port (R50 to R52), the order and the extent of the accesses of the
fetch, the resolvers and the handlers (R55, R56, R62), and what a store is to the next fetch (R65). -/

namespace Sys2Proof.Machine

open Sys2Proof.Claims

/-! ## The bus port -/

/-- A read of plain RAM answers the byte just written there (R51). -/
theorem busRead_busWrite_same {s : State} {a : Word} {v : Byte} (hw : s.mem.wf = true) (h : s.target a = .ram) :
    busRead a (busWrite a v s) = (v, busWrite a v s) := by
  rw [busRead_ram ((busWrite_target a v s a).trans h), busWrite_memRead_same hw h]

/-- Settles O7, from the laws of the memory list and the plain-RAM rules of the bus port. -/
theorem plainRamReadsTheLastByteWritten : Obligations.PlainRamReadsTheLastByteWritten := by
  unfold Obligations.PlainRamReadsTheLastByteWritten
  intro s a v hw ha
  refine ⟨busRead_busWrite_same hw ha, busRead_ram ha, (BusSteps.refl.write a v).wf hw, fun b hba hb => ?_⟩
  rw [busRead_ram ((busWrite_target a v s b).trans hb), busRead_ram hb, busWrite_memRead_other (word_toNat_ne hba)]

section anyBus
variable {BusState : Type} (B : Bus BusState) {init : Word → Byte} {s : State}

/-- Which bus answers a read decides the byte alone: the state after it is the same on every bus. -/
theorem busReadOn_snd (a : Word) (s : State) : (busReadOn B a s).2 = (busRead a s).2 := by
  cases h : s.target a <;> simp [busRead, busReadOn, h]

/-- A read answers what the bus answers, and the accesses listed after it give the state the bus goes to (R51, R52). -/
theorem busReadOn_answers (hB : honours B s.busMap init) (hs : holdsLastWrites init s) (a : Word) :
    (busReadOn B a s).1 = (B.read (B.after s.busLog) a).2 ∧
      B.after (busReadOn B a s).2.busLog = (B.read (B.after s.busLog) a).1 := by
  cases h : s.target a with
  | ram =>
    rw [(hB s.busLog a).1 h, ← hs.2 a h]
    simp [busReadOn, h, ramByte]
  | unmapped | device =>
    simp only [busReadOn, h]
    exact ⟨rfl, rfl⟩

/-- The accesses listed after a write give the state the bus goes to; a dropped write leaves it (R51, R52). -/
theorem after_busWrite (hB : honours B s.busMap init) (a : Word) (v : Byte) :
    B.after (busWrite a v s).busLog = B.write (B.after s.busLog) a v := by
  by_cases h : s.target a = .unmapped
  · rw [busWrite_unmapped h, (hB s.busLog a).2 h v]
  · rw [busWrite_busLog h]
    rfl

end anyBus

/-- Settles O8: the first part is the bus port case by case, the second the read and the write on any bus. -/
theorem whatIsNotPlainRamSeesTheAccess : Obligations.WhatIsNotPlainRamSeesTheAccess := by
  unfold Obligations.WhatIsNotPlainRamSeesTheAccess
  constructor
  · intro s a v
    exact ⟨busRead_other, busWrite_unmapped, busWrite_device, fun h => busWrite_busLog (by simp [h])⟩
  · intro BusState B init s a v hB hs
    obtain ⟨answer, after⟩ := busReadOn_answers B hB hs a
    refine ⟨answer, after, after_busWrite B hB a v, ?_, (BusSteps.refl.write a v).holdsLastWrites hs⟩
    rw [busReadOn_snd]
    exact (BusSteps.refl.read a).holdsLastWrites hs

/-- Settles O57: all a step does to the bus is reads and writes. -/
theorem everyStepKeepsTheMapAndExtendsTheLog : Obligations.EveryStepKeepsTheMapAndExtendsTheLog := by
  unfold Obligations.EveryStepKeepsTheMapAndExtendsTheLog
  intro s t h
  obtain ⟨accesses, calls⟩ := step_keeps h
  exact ⟨accesses.map, calls, accesses.log, fun _ hs => accesses.holdsLastWrites hs⟩

/-! ## The fetch -/

/-- The bytes the fetch reads after an opcode: its mode's operand bytes, but BRK's padding byte (R80, R184). -/
theorem table_bytesRead (op : Byte) :
    (table op).bytesRead = if op = 0x00#8 then 0 else (table op).mode.operandBytes := by
  obtain ⟨-, -, -, -, brk⟩ := decodeParts_spec op 0 0
  simp only [Entry.bytesRead, brk]

theorem table_bytesRead_le (op : Byte) : (table op).bytesRead ≤ 2 := by
  obtain ⟨-, -, -, le, -⟩ := decodeParts_spec op 0 0
  rw [table_bytesRead]
  split <;> omega

/-- Settles O13, by how many operand bytes the opcode has: none, one or two. -/
theorem fetchReadsEachInstructionByteOnce : Obligations.FetchReadsEachInstructionByteOnce := by
  unfold Obligations.FetchReadsEachInstructionByteOnce
  intro s h op n
  have hop : busRead s.pc s = (op, s.logAccess (.read s.pc)) := busRead_device (h s.pc)
  refine ⟨?_, (fetch_opcode s).2.trans (congrArg Prod.fst hop)⟩
  have hread (a : Word) {u : State} (hu : u.busMap = s.busMap) : (busRead a u).2 = u.logAccess (.read a) := by
    rw [busRead_device ((congrArg (targetIn · a) hu).trans (h a))]
  have hn : (table op).bytesRead = n := table_bytesRead op
  have hle : n ≤ 2 := hn ▸ table_bytesRead_le op
  simp only [fetch, hop, hn]
  clear_value n
  have two : s.pc + 1#16 + 1#16 = s.pc + 2#16 := by simp [BitVec.add_assoc]
  match n with
  | 0 => simp [State.setOpcode, State.setPc, State.logAccess]
  | 1 => simp [hread, List.range_succ, State.setOpcode, State.setPc, State.logAccess]
  | 2 => simp [hread, List.range_succ, two, State.setOpcode, State.setPc, State.logAccess]

/-! ## The resolvers -/

theorem zeroPage_eq_ofNat (b : Byte) : zeroPage b = BitVec.ofNat 16 b.toNat := by
  apply BitVec.eq_of_toNat_eq
  rw [zeroPage_toNat, BitVec.toNat_ofNat, Nat.mod_eq_of_lt (by omega)]

/-- The second read of an indirect jump stays in the pointer's page (R121). -/
theorem nextInPage_eq_ofNat (w : Word) : joinBytes (highByte w) (lowByte w + 1#8) =
    BitVec.ofNat 16 (w.toNat / 256 * 256 + (w.toNat + 1) % 256) := by
  apply BitVec.eq_of_toNat_eq
  rw [joinBytes_toNat, highByte_toNat, byte_succ_toNat, lowByte_toNat, BitVec.toNat_ofNat]
  omega

theorem readZeroPagePointer_busLog_device {s : State} (h : allDevice s) (b : Byte) :
    (readZeroPagePointer b s).2.busLog = .read (zeroPage (b + 1#8)) :: .read (zeroPage b) :: s.busLog := by
  rw [readZeroPagePointer, busRead_log_device ((busRead_target _ s _).trans (h _)), busRead_log_device (h _)]

theorem readIndirect_busLog_device {s : State} (h : allDevice s) (w : Word) :
    (readIndirect w s).2.busLog = .read (joinBytes (highByte w) (lowByte w + 1#8)) :: .read w :: s.busLog := by
  rw [readIndirect, busRead_log_device ((busRead_target _ s _).trans (h _)), busRead_log_device (h _)]

/-- Settles O14: the three modes with a pointer read it, the others make no access. -/
theorem resolversReadOnlyTheirPointer : Obligations.ResolversReadOnlyTheirPointer := by
  unfold Obligations.ResolversReadOnlyTheirPointer
  intro i s h
  have hpc (k : Word) : allDevice ((s.setCycles i.entry.base).setPc k) := h
  simp only [atHandler]
  cases i.operand with
  | ind w => simp [resolve, readIndirect_busLog_device (hpc _), nextInPage_eq_ofNat]
  | izx b => simp [resolve, readZeroPagePointer_busLog_device (hpc _), zeroPage_eq_ofNat]
  | izy b => simp [resolve, readZeroPagePointer_busLog_device (hpc _), zeroPage_eq_ofNat]
  | _ => rfl

/-! ## The handler and the mode of an instruction -/

/-- The rows a rule lists are rows of the dispatch table with its handler (R83, R86). -/
theorem rowsOf_handler (h : Handler) : ∀ r ∈ rowsOf h, (table r.1).handler = h := by
  cases h <;> decide

theorem handler_of_encodes {h : Handler} {i : Instr} (e : encodes h i) : i.handler = h := by
  obtain ⟨r, hr, op⟩ := List.mem_map.1 e
  rw [← (rowAgrees i).1, ← op, rowsOf_handler h r hr]

/-- Every instruction has a mode that R86 lists for its handler, and BRK alone has the skipped byte (R184). -/
theorem admits_handler_mode (i : Instr) :
    admits i.handler i.operand.mode = true ∧ (i.handler = .brk ↔ i.operand = .skipped) := by
  have hw := wellFormed_all i
  simp only [Instr.wellFormed, Form.wellFormed, Instr.form, Bool.and_eq_true, beq_iff_eq] at hw
  exact ⟨hw.1, by rw [← beq_iff_eq, hw.2, beq_iff_eq]⟩

/-! ## A store and the next fetch -/

/-- A store writes its register at `addr_abs` (R143 to R145). -/
theorem handlerFn_store {h : Handler} (hh : h ∈ [Handler.sta, .stx, .sty]) (o : Operand) (s : State) :
    handlerFn h o s =
      (false, busWrite s.addrAbs (if h = .sta then s.a else if h = .stx then s.x else s.y) s) := by
  fin_cases hh <;> rfl

/-- Settles O16: PC after the store is the address stored to, and the fetch reads plain RAM there. -/
theorem storedByteIsTheNextOpcodeFetched : Obligations.StoredByteIsTheNextOpcodeFetched := by
  unfold Obligations.StoredByteIsTheNextOpcodeFetched
  intro i s hi hram hwf hea
  have hh : i.handler ∈ [Handler.sta, .stx, .sty] := by
    rcases hi with e | e | e <;> simp [handler_of_encodes e]
  refine ⟨_, exec_next i s, ?_⟩
  rw [handlerFn_store hh, (fetch_opcode _).1, (fetch_opcode _).2]
  refine ⟨?_, rfl⟩
  have hpc : (atHandler i s).pc = (atHandler i s).addrAbs := (atHandler_pc i s).trans hea.symm
  have ht : (atHandler i s).target (atHandler i s).addrAbs = .ram := (atHandler_target i s _).trans (hram _)
  rw [busRead_ram (by simpa [hpc] using ht)]
  simp only [State.setCycles_mem, State.setCycles_pc, busWrite_pc, hpc]
  rw [busWrite_memRead_same (by simpa using hwf) ht, atHandler_a, atHandler_x, atHandler_y]

/-! ## The stack's addresses and bytes, as the statements write them -/

theorem stackAddr_eq_stackByte (b : Byte) : stackAddr b = stackByte b := by
  apply BitVec.eq_of_toNat_eq
  rw [stackAddr_toNat, stackByte, BitVec.toNat_ofNat, Nat.mod_eq_of_lt (by omega)]

theorem highByte_eq_hiByte (w : Word) : highByte w = hiByte w := by
  apply BitVec.eq_of_toNat_eq
  rw [highByte_toNat, hiByte, BitVec.toNat_ofNat, Nat.mod_eq_of_lt (by omega)]

theorem lowByte_eq_loByte (w : Word) : lowByte w = loByte w := by
  apply BitVec.eq_of_toNat_eq
  rw [lowByte_toNat, loByte, BitVec.toNat_ofNat, Nat.mod_mod]

/-! ## The accesses of the operations the handlers share, on a bus that sees all of them -/

section device
variable {s : State} (h : allDevice s)
include h

/-- The operand read is one read at `addr_abs`, but for IMP and IMM (R111). -/
theorem fetchOperand_busLog_device {o : Operand} (ho : o ≠ .skipped) : (fetchOperand o s).2.busLog =
    if o.mode = .imp ∨ o.mode = .imm then s.busLog else .read s.addrAbs :: s.busLog := by
  have r : (busRead s.addrAbs s).2.busLog = .read s.addrAbs :: s.busLog := busRead_log_device (h _)
  cases o with
  | imp | imm v => rfl
  | skipped => exact absurd rfl ho
  | _ => exact r

theorem push_busLog_device (v : Byte) : (push v s).busLog = .write (stackByte s.sp) v :: s.busLog := by
  rw [push_busLog (by simp [h _]), stackAddr_eq_stackByte]

theorem pushWord_busLog_device (w : Word) : (pushWord w s).busLog =
    .write (stackByte (s.sp - 1#8)) (loByte w) :: .write (stackByte s.sp) (hiByte w) :: s.busLog := by
  have h' : allDevice (push (highByte w) s) := fun a => (push_target _ s a).trans (h a)
  rw [pushWord, push_busLog_device h', push_busLog_device h, push_sp, highByte_eq_hiByte, lowByte_eq_loByte]

theorem pull_busLog_device : (pull s).2.busLog = .read (stackByte (s.sp + 1#8)) :: s.busLog := by
  rw [pull_log_device (h _), stackAddr_eq_stackByte]

theorem pullWord_busLog_device : (pullWord s).2.busLog =
    .read (stackByte (s.sp + 2#8)) :: .read (stackByte (s.sp + 1#8)) :: s.busLog := by
  have h' : allDevice (pull s).2 := fun a => (pull_target s a).trans (h a)
  rw [pullWord, pull_busLog_device h', pull_busLog_device h, pull_sp, BitVec.add_assoc]
  rfl

theorem read16_busLog_device (w : Word) : (read16 w s).2.busLog = .read (w + 1#16) :: .read w :: s.busLog := by
  rw [read16, busRead_log_device ((busRead_target _ s _).trans (h _)), busRead_log_device (h _)]

/-- An interrupt entry: PC and the status byte pushed, then the vector read (R184, R306). -/
theorem enterInterrupt_busLog_device (k : Bool) (v : Word) : (enterInterrupt k v s).busLog =
    .read (v + 1#16) :: .read v :: .write (stackByte (s.sp - 2#8)) (pushedStatus k s.p) ::
      .write (stackByte (s.sp - 1#8)) (loByte s.pc) :: .write (stackByte s.sp) (hiByte s.pc) :: s.busLog := by
  have h1 : allDevice (pushWord s.pc s) := fun a => (pushWord_target _ s a).trans (h a)
  have h2 : allDevice ((push (pushedStatus k s.p) (pushWord s.pc s)).setP { s.p with i := true }) :=
    fun a => (push_target _ _ a).trans (h1 a)
  have sp : s.sp - 1#8 - 1#8 = s.sp - 2#8 := by simp [BitVec.sub_eq_add_neg, BitVec.add_assoc]
  simp only [enterInterrupt, State.setPc_busLog, push_p, pushWord_p]
  rw [read16_busLog_device h2, State.setP_busLog, push_busLog_device h1, pushWord_busLog_device h, pushWord_sp, sp]

/-- A return from an interrupt: three pulls (R183, R307). -/
theorem returnFromInterrupt_busLog_device : (returnFromInterrupt s).busLog =
    .read (stackByte (s.sp + 3#8)) :: .read (stackByte (s.sp + 2#8)) :: .read (stackByte (s.sp + 1#8)) :: s.busLog := by
  have h' : allDevice ((pull s).2.setP { statusOf (pull s).1 with b := false }) :=
    fun a => (pull_target s a).trans (h a)
  rw [returnFromInterrupt, State.setPc_busLog, pullWord_busLog_device h', State.setP_busLog, State.setP_sp, pull_sp,
    pull_busLog_device h, BitVec.add_assoc, BitVec.add_assoc]
  rfl

/-- A write-back is one write at `addr_abs`, but for IMP, where it is to A (R174). -/
theorem writeBack_busLog_device {o : Operand} (v : Byte) : (writeBack o v s).busLog =
    if o.mode = .imp then s.busLog else .write s.addrAbs v :: s.busLog := by
  have w : (busWrite s.addrAbs v s).busLog = .write s.addrAbs v :: s.busLog := busWrite_busLog (by simp [h _])
  cases o with
  | imp => rfl
  | _ => exact w

theorem shiftTo_busLog_device (o : Operand) (out : Bool) (t : Word) : (shiftTo o out t s).busLog =
    if o.mode = .imp then s.busLog else .write s.addrAbs (t.setWidth 8) :: s.busLog :=
  writeBack_busLog_device (s := (s.setTemp t).setP (withShift out (t.setWidth 8) s.p)) h (t.setWidth 8)

theorem storeResult_busLog_device (t : Word) :
    (storeResult t s).busLog = .write s.addrAbs (t.setWidth 8) :: s.busLog :=
  busWrite_busLog (s := s.setTemp t) (by simp [h _])

end device

/-! ## The accesses of the handlers -/

/-- The handlers whose only access is the operand read (R111): it is never in mode IMP (R86). -/
theorem handlerFn_busLog_of_reads {h : Handler}
    (hh : h ∈ [Handler.adc, .and, .bit, .cmp, .cpx, .cpy, .eor, .lda, .ldx, .ldy, .ora, .sbc]) {o : Operand}
    (hm : admits h o.mode = true) (ho : o ≠ .skipped) {s : State} (hs : allDevice s) :
    (handlerFn h o s).2.busLog = if o.mode = .imm then s.busLog else .read s.addrAbs :: s.busLog := by
  have himp : o.mode ≠ .imp := fun e => by
    rw [e] at hm
    fin_cases hh <;> cases hm
  have read : (handlerFn h o s).2.busLog = (fetchOperand o s).2.busLog := by fin_cases hh <;> rfl
  rw [read, fetchOperand_busLog_device hs ho]
  simp only [himp, false_or]

/-- The shifts and rotates (R174): one read and one write at `addr_abs`, but for A in mode IMP (R92). -/
theorem handlerFn_busLog_of_shifts {h : Handler} (hh : h ∈ [Handler.asl, .lsr, .rol, .ror]) {o : Operand}
    (hm : o.mode ≠ .imm) {s : State} (hs : allDevice s) :
    if o.mode = .imp then (handlerFn h o s).2.busLog = s.busLog
    else ∃ v, (handlerFn h o s).2.busLog = .write s.addrAbs v :: .read s.addrAbs :: s.busLog := by
  have ho : o ≠ .skipped := fun e => hm (by rw [e, Operand.mode])
  have shift : ∃ out t, (handlerFn h o s).2 = shiftTo o out t (fetchOperand o s).2 := by
    fin_cases hh <;> exact ⟨_, _, rfl⟩
  obtain ⟨out, t, e⟩ := shift
  rw [e, shiftTo_busLog_device (fun a => (fetchOperand_target o s a).trans (hs a)), fetchOperand_busLog_device hs ho]
  by_cases himp : o.mode = .imp
  · simp [himp]
  · simp [himp, hm]

/-- INC and DEC (R231, R232): one read and one write at `addr_abs`. -/
theorem handlerFn_busLog_of_incDec {h : Handler} (hh : h ∈ [Handler.inc, .dec]) {o : Operand} (hm : o.mode ≠ .imm)
    (himp : o.mode ≠ .imp) {s : State} (hs : allDevice s) :
    ∃ v, (handlerFn h o s).2.busLog = .write s.addrAbs v :: .read s.addrAbs :: s.busLog := by
  have ho : o ≠ .skipped := fun e => hm (by rw [e, Operand.mode])
  have store : ∃ t, (handlerFn h o s).2 = storeResult t (fetchOperand o s).2 := by
    fin_cases hh <;> exact ⟨_, rfl⟩
  obtain ⟨t, e⟩ := store
  rw [e, storeResult_busLog_device (fun a => (fetchOperand_target o s a).trans (hs a)),
    fetchOperand_busLog_device hs ho]
  simp [himp, hm]

/-- The read-modify-write handlers (R55, R174): A's shifts make no access, the others read and then write `addr_abs`. -/
theorem handlerFn_busLog_of_modifies {h : Handler} (hh : h ∈ [Handler.asl, .lsr, .rol, .ror, .inc, .dec])
    {o : Operand} (hm : admits h o.mode = true) {s : State} (hs : allDevice s) :
    if o.mode = .imp then (handlerFn h o s).2.busLog = s.busLog
    else ∃ v, (handlerFn h o s).2.busLog = .write s.addrAbs v :: .read s.addrAbs :: s.busLog := by
  have himm : o.mode ≠ .imm := fun e => by
    rw [e] at hm
    fin_cases hh <;> cases hm
  rcases List.mem_append.1 (show h ∈ [Handler.asl, .lsr, .rol, .ror] ++ [.inc, .dec] from hh) with hshift | hid
  · exact handlerFn_busLog_of_shifts hshift himm hs
  · have himp : o.mode ≠ .imp := fun e => by
      rw [e] at hm
      fin_cases hid <;> cases hm
    rw [if_neg himp]
    exact handlerFn_busLog_of_incDec hid himm himp hs

/-- PLA and PLP (R162, R163): one pull. -/
theorem handlerFn_busLog_of_pulls {h : Handler} (hh : h ∈ [Handler.pla, .plp]) (o : Operand) (s : State) :
    (handlerFn h o s).2.busLog = (pull s).2.busLog := by
  fin_cases hh <;> rfl

/-- The handlers that make no access (R56). -/
theorem handlerFn_busLog_of_none {h : Handler} (hh : h ∈ [Handler.bcc, .bcs, .beq, .bmi, .bne, .bpl, .bvc, .bvs, .clc,
    .cld, .cli, .clv, .sec, .sed, .sei, .dex, .dey, .inx, .iny, .jmp, .nop, .tax, .tay, .tsx, .txa, .txs, .tya, .xxx])
    (o : Operand) (s : State) : (handlerFn h o s).2.busLog = s.busLog := by
  cases h
  case bcc | bcs | beq | bmi | bne | bpl | bvc | bvs => exact branch_busLog _ s
  case clc | cld | cli | clv | sec | sed | sei | dex | dey | inx | iny | jmp | nop | tax | tay | tsx | txa | txs | tya |
      xxx => rfl
  all_goals simp at hh

/-- Settles O15, group by group of the handlers, each run from the state after the resolver. -/
theorem handlersMakeOnlyTheirAccesses : Obligations.HandlersMakeOnlyTheirAccesses := by
  unfold Obligations.HandlersMakeOnlyTheirAccesses
  intro i s h u e
  have hu : allDevice u := fun a => (atHandler_target i s a).trans (h a)
  obtain ⟨hm, hskip⟩ := admits_handler_mode i
  have store (hh : i.handler ∈ [Handler.sta, .stx, .sty]) : (handlerFn i.handler i.operand u).2.busLog =
      .write e (if i.handler = .sta then u.a else if i.handler = .stx then u.x else u.y) :: u.busLog := by
    rw [handlerFn_store hh]
    exact busWrite_busLog (by simp [hu _])
  refine ⟨_, exec_next i s, ?_⟩
  rw [State.setCycles_busLog, ← atHandler_a i s, ← atHandler_x i s, ← atHandler_y i s, ← atHandler_sp i s,
    ← atHandler_p i s]
  refine ⟨?reads, ?modifies, ?sta, ?stx, ?sty, ?pha, ?php, ?pulls, ?jsr, ?rts, ?rti, ?brk, ?none⟩
  case reads =>
    exact fun hh => handlerFn_busLog_of_reads hh hm (fun ho => by simp [hskip.2 ho] at hh) hu
  case modifies => exact fun hh => handlerFn_busLog_of_modifies hh hm hu
  case sta | stx | sty => exact fun hh => (store (by simp [hh])).trans (by rw [hh]; rfl)
  case pha =>
    intro hh
    rw [hh]
    exact push_busLog_device hu u.a
  case php =>
    intro hh
    rw [hh]
    exact push_busLog_device hu (pushedStatus true u.p)
  case pulls => exact fun hh => (handlerFn_busLog_of_pulls hh i.operand u).trans (pull_busLog_device hu)
  case jsr =>
    intro hh
    have hpc : u.pc - 1#16 = s.pc + 1#16 := by
      have abs : i.operand.mode = .abs := by simpa [hh, admits] using hm
      rw [atHandler_pc, abs, Mode.operandBytes]
      bv_omega
    rw [hh, ← hpc]
    exact pushWord_busLog_device hu (u.pc - 1#16)
  case rts =>
    intro hh
    rw [hh]
    exact pullWord_busLog_device hu
  case rti =>
    intro hh
    rw [hh]
    exact returnFromInterrupt_busLog_device hu
  case brk =>
    intro hh
    have hpc : u.pc = s.pc + 1#16 := by rw [atHandler_pc, hskip.1 hh]; rfl
    rw [hh, ← hpc]
    exact enterInterrupt_busLog_device hu true Config.irqVector
  case none => exact fun hh => handlerFn_busLog_of_none hh i.operand u

end Sys2Proof.Machine
end

section
/-! PROOFS. The encoding family (30_encoding.md): the dispatch table (R83, R84), the length of an instruction (R80, R81),
and the two round trips of the decoder and the encoder (R82, R86). -/

namespace Sys2Proof.Machine

/-! ## The bytes of an instruction decode to it -/

/-- An operand is written in as many bytes as its mode has (R80). -/
theorem operand_bytes_length (o : Operand) : o.bytes.length = o.mode.operandBytes := by cases o <;> rfl

/-- The decoder entry at an instruction's opcode rebuilds it from its operand bytes, a word from its two halves (R82). -/
theorem decodeParts_operand_bytes (i : Instr) :
    decodeParts i.opcode (i.operand.bytes.getD 0 0#8) (i.operand.bytes.getD 1 0#8) = i := by
  cases i
  case oraAbs w | aslAbs w | oraAby w | oraAbx w | aslAbx w | jsr w | bitAbs w | andAbs w | rolAbs w | andAby w |
      andAbx w | rolAbx w | jmpAbs w | eorAbs w | lsrAbs w | eorAby w | eorAbx w | lsrAbx w | jmpInd w | adcAbs w |
      rorAbs w | adcAby w | adcAbx w | rorAbx w | styAbs w | staAbs w | stxAbs w | staAby w | staAbx w | ldyAbs w |
      ldaAbs w | ldxAbs w | ldaAby w | ldyAbx w | ldaAbx w | ldxAby w | cpyAbs w | cmpAbs w | decAbs w | cmpAby w |
      cmpAbx w | decAbx w | cpxAbs w | sbcAbs w | incAbs w | sbcAby w | sbcAbx w | incAbx w =>
    exact congrArg _ (joinBytes_split w)
  all_goals rfl

/-- Settles O2: the bytes after the opcode are as many as the table entry's mode asks for (R81), and the decoder entry
rebuilds the instruction from them. -/
theorem decodeOfEncodeIsTheInstruction : Obligations.DecodeOfEncodeIsTheInstruction := by
  unfold Obligations.DecodeOfEncodeIsTheInstruction
  intro i rest
  obtain ⟨-, mode, -⟩ := rowAgrees i
  refine (decode_iff _ _ _ _).2 ⟨i.operand.bytes, rfl, ?_, (decodeParts_operand_bytes i).symm⟩
  rw [mode, operand_bytes_length]

/-! ## What the opcode byte determines -/

theorem table_length_eq (op : Byte) : (table op).length = (table op).mode.operandBytes + 1 := Nat.add_comm _ _

/-- The sixteen rows of R85 have sixteen entries each. -/
theorem dispatchTable_length : dispatchTable.length = 256 := by
  simp only [dispatchTable, List.length_append]
  rfl

/-- The entry of a byte is the one at its index (R84). -/
theorem dispatchTable_getElem? (op : Byte) : dispatchTable[op.toNat]? = some (table op) := by
  have inTable : op.toNat < dispatchTable.length := dispatchTable_length ▸ op.isLt
  rw [table, List.getD_eq_getElem _ _ inTable, List.getElem?_eq_getElem inTable]

/-- An opcode byte decodes when at least its mode's operand bytes follow (R81). -/
theorem exists_decode_of_operandBytes_le {op : Byte} {tail : List Byte}
    (h : (table op).mode.operandBytes ≤ tail.length) : ∃ i rest, decode (op :: tail) = .ok (i, rest) :=
  ⟨_, _, (decode_iff _ _ _ _).2
    ⟨tail.take _, (tail.take_append_drop (table op).mode.operandBytes).symm, List.length_take_of_le h, rfl⟩⟩

/-- What decodes has the opcode byte it was decoded from, and takes the length of that byte's entry (R81). -/
theorem opcode_and_length_of_decode {op : Byte} {tail rest : List Byte} {i : Instr}
    (h : decode (op :: tail) = .ok (i, rest)) :
    i.opcode = op ∧ (op :: tail).length = (table op).length + rest.length := by
  obtain ⟨pre, rfl, len, rfl⟩ := (decode_iff _ _ _ _).1 h
  obtain ⟨opcode, -⟩ := decodeParts_spec op (pre.getD 0 0#8) (pre.getD 1 0#8)
  refine ⟨opcode, ?_⟩
  rw [table_length_eq, List.length_cons, List.length_append, len, Nat.add_right_comm]

/-- Settles O1: no mode has more than two operand bytes, so two bytes after the opcode always do. -/
theorem everyOpcodeHasOneEntryAndDecodes : Obligations.EveryOpcodeHasOneEntryAndDecodes := by
  unfold Obligations.EveryOpcodeHasOneEntryAndDecodes
  refine ⟨dispatchTable_length, fun op b1 b2 rest => ⟨dispatchTable_getElem? op, ?_⟩⟩
  obtain ⟨-, -, -, atMostTwo, -⟩ := decodeParts_spec op b1 b2
  have enough : (table op).mode.operandBytes ≤ (b1 :: b2 :: rest).length :=
    atMostTwo.trans (Nat.le_add_left 2 rest.length)
  obtain ⟨i, r, answer⟩ := exists_decode_of_operandBytes_le enough
  obtain ⟨opcode, -⟩ := opcode_and_length_of_decode answer
  exact ⟨i, r, answer, opcode, congrArg table opcode⟩

/-- Settles O4: the decoder looks at the opcode's entry alone to know how many bytes to take. -/
theorem opcodeByteAloneGivesTheLength : Obligations.OpcodeByteAloneGivesTheLength := by
  unfold Obligations.OpcodeByteAloneGivesTheLength
  intro op tail
  refine ⟨fun i rest => opcode_and_length_of_decode, ?_⟩
  rw [table_length_eq, List.length_cons, Nat.succ_lt_succ_iff, Nat.succ_le_succ_iff]
  exact ⟨decode_truncated op tail, exists_decode_of_operandBytes_le⟩

/-! ## Bytes that decode are the encoding of what they decode to -/

/-- The operand bytes of a decoder entry are the bytes it was given, but for BRK (R82, R184). -/
theorem decodeParts_bytes_of_length {op : Byte} (hop : op ≠ 0x00#8) {pre : List Byte}
    (len : pre.length = (table op).mode.operandBytes) :
    (decodeParts op (pre.getD 0 0#8) (pre.getD 1 0#8)).operand.bytes = pre := by
  obtain ⟨-, bytes, -, atMostTwo, -⟩ := decodeParts_spec op (pre.getD 0 0#8) (pre.getD 1 0#8)
  have toNat_ne : op.toNat ≠ 0 := fun e => hop (BitVec.eq_of_toNat_eq e)
  rw [← len] at bytes atMostTwo
  rw [bytes, if_neg toNat_ne]
  match pre, atMostTwo with
  | [], _ | [_], _ | [_, _], _ => rfl

/-- Settles O3: the opcode and the operand bytes of what decodes are the bytes taken, and BRK's mode takes one padding
byte. -/
theorem encodeOfDecodeIsTheBytes : Obligations.EncodeOfDecodeIsTheBytes := by
  unfold Obligations.EncodeOfDecodeIsTheBytes
  rintro (_ | ⟨op, tail⟩) rest i h
  · cases h
  obtain ⟨pre, rfl, len, rfl⟩ := (decode_iff _ _ _ _).1 h
  obtain ⟨opcode, -, isBrk, -⟩ := decodeParts_spec op (pre.getD 0 0#8) (pre.getD 1 0#8)
  simp only [isBrk]
  by_cases hop : op = 0x00#8
  · subst hop
    obtain ⟨pad, rfl⟩ := List.length_eq_one_iff.1 len
    exact ⟨pad, rfl⟩
  · rw [if_neg hop, encode, opcode, decodeParts_bytes_of_length hop len, List.cons_append]

/-! ## One word per family -/

/-- Settles O5: the ten words are run. -/
theorem writtenOutWordsDecode : Obligations.WrittenOutWordsDecode := by
  unfold Obligations.WrittenOutWordsDecode
  decide

end Sys2Proof.Machine
end

section
/-! PROOFS. The addressing-mode family (41_addressing_modes.md): the addresses the resolvers give (R112 to R123, R125),
what a resolver leaves alone (R110), and the operand read (R111). -/

namespace Sys2Proof.Machine

open Sys2Proof.Claims

/-! ## The addresses -/

theorem zeroPage_add_toNat (b index : Byte) : (zeroPage (b + index)).toNat = (b.toNat + index.toNat) % 256 := by
  rw [zeroPage_toNat, BitVec.toNat_add]

/-- An indexed address wraps mod 2^16, and the cycle is requested exactly on a page cross (R119, R120, R123). -/
theorem indexed_spec (base : Word) (index : Byte) :
    (indexed base index).2.toNat = (base.toNat + index.toNat) % 65536 ∧
      (indexed base index).1 = decide ((indexed base index).2.toNat / 256 ≠ base.toNat / 256) := by
  refine ⟨?_, highByte_bne _ _⟩
  rw [indexed, BitVec.toNat_add, BitVec.toNat_setWidth, Nat.add_mod_mod]

/-- Settles O9: each resolver without a pointer by its equation, then what its address is as a number. -/
theorem resolversGiveTheirAddress : Obligations.ResolversGiveTheirAddress := by
  unfold Obligations.ResolversGiveTheirAddress
  intro s b w
  refine ⟨rfl, rfl, ?zp, ?zpx, ?zpy, ?rel, rfl, ?abx, ?aby⟩
  case zp => exact ⟨_, rfl, zeroPage_toNat b⟩
  case zpx => exact ⟨_, rfl, zeroPage_add_toNat b s.x⟩
  case zpy => exact ⟨_, rfl, zeroPage_add_toNat b s.y⟩
  case rel => exact ⟨_, rfl, signExtend_toInt b⟩
  case abx => exact ⟨_, _, rfl, indexed_spec w s.x⟩
  case aby => exact ⟨_, _, rfl, indexed_spec w s.y⟩

/-! ## The pointers, in plain RAM -/

theorem joinBytes_ramByte (s : State) (lo hi : Word) :
    joinBytes (ramByte s hi) (ramByte s lo) = ramWord s lo hi := by
  apply BitVec.eq_of_toNat_eq
  rw [joinBytes_toNat, ramWord, BitVec.toNat_ofNat, Nat.mod_eq_of_lt (by omega)]

section allRam
variable {s : State} (h : allRam s)
include h

theorem readIndirect_eq_ramWord (w : Word) : readIndirect w s =
    (ramWord s w (BitVec.ofNat 16 (w.toNat / 256 * 256 + (w.toNat + 1) % 256)), s) := by
  rw [readIndirect_ram h, joinBytes_ramByte, nextInPage_eq_ofNat]

theorem readZeroPagePointer_eq_ramWord (b : Byte) : readZeroPagePointer b s =
    (ramWord s (BitVec.ofNat 16 b.toNat) (BitVec.ofNat 16 ((b.toNat + 1) % 256)), s) := by
  rw [readZeroPagePointer_ram h, joinBytes_ramByte, zeroPage_eq_ofNat, zeroPage_eq_ofNat, byte_succ_toNat]

end allRam

/-- Settles O10: the pointer is read where PC is already past the operand, which moves no byte of memory. -/
theorem pointerResolversWrapInTheirPage : Obligations.PointerResolversWrapInTheirPage := by
  unfold Obligations.PointerResolversWrapInTheirPage
  intro s b w h
  have past (pc : Word) : allRam (s.setPc pc) := h
  refine ⟨?ind, ?izx, ?izy⟩
  case ind =>
    rw [resolve, readIndirect_eq_ramWord (past _)]
    rfl
  case izx =>
    rw [resolve, readZeroPagePointer_eq_ramWord (past _), BitVec.toNat_add, Nat.mod_add_mod]
    rfl
  case izy =>
    rw [resolve, readZeroPagePointer_eq_ramWord (past _)]
    exact ⟨_, _, rfl, indexed_spec _ _⟩

/-! ## What a resolver leaves alone -/

/-- The bus has seen at most `n` reads more, and no write. -/
def ReadsAtMost (n : Nat) (s t : State) : Prop :=
  ∃ reads, t.busLog = reads ++ s.busLog ∧ reads.length ≤ n ∧ ∀ e ∈ reads, ∃ a, e = BusAccess.read a

theorem ReadsAtMost.of_busLog_eq {s t : State} (n : Nat) (h : t.busLog = s.busLog) : ReadsAtMost n s t :=
  ⟨[], h, n.zero_le, by simp⟩

/-- A read of plain RAM is not listed; any other is one access (R51, R52). -/
theorem ReadsAtMost.read {n : Nat} {s t : State} (h : ReadsAtMost n s t) (a : Word) :
    ReadsAtMost (n + 1) s (busRead a t).2 := by
  obtain ⟨reads, log, len, only⟩ := h
  by_cases ha : t.target a = .ram
  · rw [busRead_ram ha]
    exact ⟨reads, log, Nat.le_succ_of_le len, only⟩
  · rw [busRead_other ha]
    exact ⟨.read a :: reads, congrArg (List.cons (BusAccess.read a)) log, Nat.succ_le_succ len,
      List.forall_mem_cons.2 ⟨⟨a, rfl⟩, only⟩⟩

/-- The two bytes of a pointer are the only accesses of a resolver (R56, R121 to R123). -/
theorem resolve_readsAtMost_two (o : Operand) (s : State) : ReadsAtMost 2 s (resolve o s).2 := by
  have pointer (pc lo hi : Word) : ReadsAtMost 2 s (busRead hi (busRead lo (s.setPc pc)).2).2 :=
    ((ReadsAtMost.of_busLog_eq 0 rfl).read lo).read hi
  cases o with
  | ind | izx | izy => exact pointer _ _ _
  | _ => exact .of_busLog_eq 2 rfl

/-- Only an indexed sum over a whole word can request the cycle (R110). -/
theorem resolve_request_mode {o : Operand} {s : State} (h : (resolve o s).1 = true) :
    o.mode = .abx ∨ o.mode = .aby ∨ o.mode = .izy := by
  cases o with
  | abx => exact .inl rfl
  | aby => exact .inr (.inl rfl)
  | izy => exact .inr (.inr rfl)
  | _ => cases h

/-- Settles O11, from the frame of the resolvers field by field, their accesses and their request. -/
theorem resolversWriteNoRegisterAndNoMemory : Obligations.ResolversWriteNoRegisterAndNoMemory := by
  unfold Obligations.ResolversWriteNoRegisterAndNoMemory
  intro o s t
  have regs : sameRegs s t := ⟨resolve_a o s, resolve_x o s, resolve_y o s, resolve_sp o s⟩
  have outer : sameOuter s t :=
    ⟨resolve_opcode o s, resolve_nmiPending o s, resolve_busMap o s, resolve_hostCalls o s⟩
  exact ⟨regs, resolve_p o s, resolve_mem o s, resolve_temp o s, resolve_cycles o s, outer,
    resolve_readsAtMost_two o s, resolve_request_mode⟩

/-! ## The operand read -/

/-- The operand read in plain RAM changes `fetched` alone (R37, R111). -/
theorem fetchOperand_snd_of_allRam {s : State} (h : allRam s) (o : Operand) :
    (fetchOperand o s).2 = s.setFetched (fetchOperand o s).1 := by
  cases o with
  | imp | imm => rfl
  | _ => simp only [fetchOperand, busRead_ram (h _)]

/-- But for IMP and IMM the operand is the byte at `addr_abs` (R111). -/
theorem fetchOperand_fst_of_allRam {s : State} (h : allRam s) {o : Operand} (himp : o.mode ≠ .imp)
    (himm : o.mode ≠ .imm) : (fetchOperand o s).1 = ramByte s s.addrAbs := by
  cases o with
  | imp => exact absurd rfl himp
  | imm | skipped => exact absurd rfl himm
  | _ => simp only [fetchOperand, busRead_ram (h _), ramByte]

theorem operand_eq_imp_of_mode {o : Operand} (h : o.mode = .imp) : o = .imp := by
  cases o with
  | imp => rfl
  | _ => cases h

/-- Settles O12: the read is that of `fetchOperand` from the state after the resolver, which has copied A to `fetched`
for IMP and has left the memory alone. -/
theorem fetchOperandReadsTheOperand : Obligations.FetchOperandReadsTheOperand := by
  unfold Obligations.FetchOperandReadsTheOperand
  intro i s h
  have hu : allRam (atHandler i s) := fun a => (atHandler_target i s a).trans (h a)
  refine ⟨?frame, ?imp, ?imm, ?memory⟩
  case frame => exact Prod.ext rfl (fetchOperand_snd_of_allRam hu i.operand)
  case imp =>
    intro hm
    have ho := operand_eq_imp_of_mode hm
    have copied : (atHandler i s).fetched = s.a := atHandler_fetched.trans (if_pos ho)
    rw [operandByte, operandRead, ho]
    exact copied
  case imm =>
    intro v ho
    rw [operandByte, operandRead, ho]
    rfl
  case memory =>
    intro himp himm
    rw [operandByte, operandRead, fetchOperand_fst_of_allRam hu himp himm, ramByte, atHandler_mem]
    rfl

end Sys2Proof.Machine
end

section
/-! PROOFS. The load, store and transfer family (42_load_store_transfer.md): LDA, LDX, LDY (R140 to R142), STA, STX, STY
(R143 to R145), and the six transfers (R146 to R151). -/

namespace Sys2Proof.Machine

open Sys2Proof.Claims

/-! ## The mode and the base cost of a listed row -/

/-- The rows a rule lists are rows of the dispatch table with their mode (R83, R86). -/
theorem rowsOf_mode (h : Handler) : ∀ r ∈ rowsOf h, (table r.1).mode = r.2 := by
  cases h <;> decide

/-- An instruction with an opcode of a rule has the mode the rule lists for it. -/
theorem listed_of_encodes {h : Handler} {i : Instr} (e : encodes h i) : listed h i := by
  obtain ⟨r, hr, op⟩ := List.mem_map.1 e
  obtain ⟨-, mode, -⟩ := rowAgrees i
  have row : r = (i.opcode, i.operand.mode) := Prod.ext op (by rw [← mode, ← op, rowsOf_mode h r hr])
  rwa [listed, ← row]

/-- Every load and store names its operand through `addr_abs` (R140 to R145). -/
theorem rowsOf_loadStore_mode : ∀ h ∈ [Handler.lda, .ldx, .ldy, .sta, .stx, .sty], ∀ r ∈ rowsOf h,
    r.2 ≠ .imp ∧ r.2 ≠ .rel := by decide

/-- Every transfer is in mode IMP, at 2 cycles (R146 to R151). -/
theorem rowsOf_transfer : ∀ h ∈ [Handler.tax, .tay, .txa, .tya, .tsx, .txs], ∀ r ∈ rowsOf h,
    r.2 = .imp ∧ (table r.1).base = 2#8 := by decide

/-! ## What an instruction answers, by the value h its handler returns (R262, R263) -/

/-- A handler that returns h = 0 is never charged for a page cross. -/
theorem exec_of_quiet {i : Instr} {s t : State}
    (h : handlerFn i.handler i.operand (atHandler i s) = (false, t)) : exec i s = .next t := by
  rw [exec_next, h, Bool.and_false, if_neg Bool.false_ne_true, BitVec.add_zero]
  rfl

/-- A handler that returns h = 1, and has left `cycles` alone, is charged for a page cross. -/
theorem exec_of_requesting {i : Instr} {s t : State}
    (h : handlerFn i.handler i.operand (atHandler i s) = (true, t)) (base : t.cycles = i.entry.base) :
    exec i s = .next (t.setCycles (pageCost i s)) := by
  rw [exec_next, h, Bool.and_true, base]
  rfl

/-- SetZN of the model is that of the statements (R220). -/
theorem withZN_eq_zn (v : Byte) (p : Status) : withZN v p = zn v p := withZN_eq v p

/-! ## Loads -/

/-- The operand read is in the frame of the handlers that make it (R111). -/
theorem operandFrame_operandRead {i : Instr} (hm : i.operand.mode ≠ .rel) (s : State) :
    operandFrame i s (operandRead i s).2 := by
  have outer : sameOuter s (operandRead i s).2 := by simp [sameOuter]
  exact ⟨(operandRead_pc i s).trans (atHandler_pc i s), operandRead_addrAbs i s,
    (operandRead_addrRel i s).trans (atHandler_addrRel hm), operandRead_fetched i s, outer⟩

/-- A load reads the operand into its register, sets Z and N from it and requests the page-cross cycle (R140 to R142). -/
theorem handlerFn_load {h : Handler} (hh : h ∈ [Handler.lda, .ldx, .ldy]) (o : Operand) (s : State) :
    handlerFn h o s = (true, { (fetchOperand o s).2 with
      a := if h = .lda then (fetchOperand o s).1 else (fetchOperand o s).2.a
      x := if h = .ldx then (fetchOperand o s).1 else (fetchOperand o s).2.x
      y := if h = .ldy then (fetchOperand o s).1 else (fetchOperand o s).2.y
      p := withZN (fetchOperand o s).1 (fetchOperand o s).2.p }) := by
  fin_cases hh <;> rfl

/-- The state after a load (R140 to R142). -/
theorem exec_load {h : Handler} (hh : h ∈ [Handler.lda, .ldx, .ldy]) {i : Instr} (e : encodes h i) (s : State) :
    exec i s = .next { (operandRead i s).2 with
      a := if h = .lda then operandByte i s else s.a
      x := if h = .ldx then operandByte i s else s.x
      y := if h = .ldy then operandByte i s else s.y
      p := zn (operandByte i s) s.p
      cycles := pageCost i s } := by
  have load := handlerFn_load hh i.operand (atHandler i s)
  rw [← handler_of_encodes e] at load
  rw [exec_of_requesting load (operandRead_cycles i s), handler_of_encodes e, withZN_eq_zn]
  simp only [fetchOperand_a, fetchOperand_x, fetchOperand_y, fetchOperand_p, atHandler_a, atHandler_x, atHandler_y,
    atHandler_p]
  rfl

/-- Settles O17: the state after a load is the one after the operand read but for the register, Z and N, and the
charge. -/
theorem loadsTakeTheOperand : Obligations.LoadsTakeTheOperand := by
  unfold Obligations.LoadsTakeTheOperand
  intro h hh i s e
  obtain ⟨-, notRel⟩ := rowsOf_loadStore_mode h (List.mem_append_left _ hh) _ (listed_of_encodes e)
  have memory (a : Word) : ramByte (operandRead i s).2 a = ramByte s a := by rw [ramByte, operandRead_mem, ramByte]
  exact ⟨listed_of_encodes e, _, exec_load hh e s, rfl, rfl, rfl, operandRead_sp i s, rfl, operandRead_temp i s, rfl,
    operandFrame_operandRead notRel s, rfl, memory⟩

/-! ## Stores -/

/-- The state after a store (R143 to R145). -/
theorem exec_store {h : Handler} (hh : h ∈ [Handler.sta, .stx, .sty]) {i : Instr} (e : encodes h i) (s : State) :
    exec i s = .next
      (busWrite (ea i s) (if h = .sta then s.a else if h = .stx then s.x else s.y) (atHandler i s)) := by
  have store := handlerFn_store hh i.operand (atHandler i s)
  rw [← handler_of_encodes e] at store
  rw [exec_of_quiet store, handler_of_encodes e, atHandler_a, atHandler_x, atHandler_y]
  rfl

/-- Settles O18: a store is one write at the effective address, from the state after the resolver. -/
theorem storesWriteTheRegister : Obligations.StoresWriteTheRegister := by
  unfold Obligations.StoresWriteTheRegister
  intro h hh i s e hwf
  have member := List.mem_append_right [Handler.lda, .ldx, .ldy] hh
  obtain ⟨notImp, notRel⟩ := rowsOf_loadStore_mode h member _ (listed_of_encodes e)
  have notImpOperand : i.operand ≠ .imp := fun o => notImp (by rw [o, Operand.mode])
  refine ⟨listed_of_encodes e, _, exec_store hh e s, ?byte, ⟨rfl, rfl⟩, ?others, ?regs, ?p, ?pc, ?addrAbs, ?addrRel,
    ?fetched, ?temp, ?outer, ?cycles⟩
  case byte =>
    exact fun hram => busWrite_memRead_same (by rwa [atHandler_mem]) ((atHandler_target i s _).trans hram)
  case others =>
    intro a ha
    rw [ramByte, busWrite_memRead_other (word_toNat_ne (List.ne_of_not_mem_cons ha)), atHandler_mem, ramByte]
  case regs => simp [sameRegs]
  case p => rw [busWrite_p, atHandler_p]
  case pc => rw [busWrite_pc, atHandler_pc, pcPast]
  case addrAbs => rw [busWrite_addrAbs, ea]
  case addrRel => rw [busWrite_addrRel, atHandler_addrRel notRel]
  case fetched => rw [busWrite_fetched, atHandler_fetched, if_neg notImpOperand]
  case temp => rw [busWrite_temp, atHandler_temp]
  case outer => simp [sameOuter]
  case cycles => rw [busWrite_cycles, atHandler_cycles]

/-! ## Transfers -/

/-- A transfer copies one register, and all but TXS set Z and N from the copy (R146 to R151). -/
theorem handlerFn_transfer {h : Handler} (hh : h ∈ [Handler.tax, .tay, .txa, .tya, .tsx, .txs]) (o : Operand)
    (s : State) : handlerFn h o s = (false, { s with
      a := if h = .txa then s.x else if h = .tya then s.y else s.a
      x := if h = .tax then s.a else if h = .tsx then s.sp else s.x
      y := if h = .tay then s.a else s.y
      sp := if h = .txs then s.x else s.sp
      p := if h = .txs then s.p else if h = .tsx then withZN s.sp s.p else if h = .txa then withZN s.x s.p
        else if h = .tya then withZN s.y s.p else withZN s.a s.p }) := by
  fin_cases hh <;> rfl

/-- The resolver of mode IMP copies A to `fetched`, after the base cost is charged (R112, R262). -/
theorem atHandler_of_imp {i : Instr} (hm : i.operand.mode = .imp) (s : State) :
    atHandler i s = { s with fetched := s.a, cycles := i.entry.base } := by
  rw [atHandler, operand_eq_imp_of_mode hm]
  rfl

/-- The state after a transfer (R146 to R151). -/
theorem exec_transfer {h : Handler} (hh : h ∈ [Handler.tax, .tay, .txa, .tya, .tsx, .txs]) {i : Instr}
    (e : encodes h i) (s : State) : exec i s = .next { s with
      a := if h = .txa then s.x else if h = .tya then s.y else s.a
      x := if h = .tax then s.a else if h = .tsx then s.sp else s.x
      y := if h = .tay then s.a else s.y
      sp := if h = .txs then s.x else s.sp
      p := if h = .txs then s.p else if h = .tsx then zn s.sp s.p else if h = .txa then zn s.x s.p
        else if h = .tya then zn s.y s.p else zn s.a s.p
      fetched := s.a
      cycles := 2#8 } := by
  obtain ⟨imp, base⟩ := rowsOf_transfer h hh _ (listed_of_encodes e)
  have transfer := handlerFn_transfer hh i.operand (atHandler i s)
  rw [← handler_of_encodes e] at transfer
  rw [exec_of_quiet transfer, handler_of_encodes e, atHandler_of_imp imp, Instr.entry, base]
  simp only [withZN_eq_zn]

/-- Settles O19: the state after a transfer, field by field. -/
theorem transfersCopyOneRegister : Obligations.TransfersCopyOneRegister := by
  unfold Obligations.TransfersCopyOneRegister
  intro h hh i s e
  have frame : sameOuter s s := ⟨rfl, rfl, rfl, rfl⟩
  exact ⟨listed_of_encodes e, _, exec_transfer hh e s, rfl, rfl, rfl, rfl, rfl, rfl, ⟨rfl, rfl, rfl, rfl, frame⟩, rfl,
    fun _ => rfl, rfl⟩

end Sys2Proof.Machine
end

section
/-! PROOFS. The stack family (43_stack.md): PHA and PHP (R160, R161), PLA and PLP (R162, R163), and the round trip of a
PHA and a PLA. -/

namespace Sys2Proof.Machine

open Sys2Proof.Claims

/-- The pushes are in mode IMP, at 3 cycles (R160, R161). -/
theorem rowsOf_push : ∀ h ∈ [Handler.pha, .php], ∀ r ∈ rowsOf h, r.2 = .imp ∧ (table r.1).base = 3#8 := by decide

/-- The pulls are in mode IMP, at 4 cycles (R162, R163). -/
theorem rowsOf_pull : ∀ h ∈ [Handler.pla, .plp], ∀ r ∈ rowsOf h, r.2 = .imp ∧ (table r.1).base = 4#8 := by decide

/-! ## The memory after one write -/

theorem ramByte_of_busAfterWrite {a : Word} {v : Byte} {s t : State} (h : busAfterWrite a v s t)
    (hwf : s.mem.wf = true) (ram : s.target a = .ram) : ramByte t a = v := by
  obtain ⟨mem, -⟩ := h
  rw [ramByte, mem, busWrite_memRead_same hwf ram]

theorem sameMemoryBut_of_busAfterWrite {a : Word} {v : Byte} {s t : State} (h : busAfterWrite a v s t) :
    sameMemoryBut [a] s t := by
  obtain ⟨mem, -⟩ := h
  intro b hb
  rw [ramByte, mem, busWrite_memRead_other (word_toNat_ne (List.ne_of_not_mem_cons hb)), ramByte]

/-! ## `Push` and `Pull` at the stack byte, as the statements write it (R58) -/

/-- A push leaves the bus as one write at the stack byte does, from any state with that bus. -/
theorem busAfterWrite_push {s t : State} (bus : t.bus = s.bus) (sp : t.sp = s.sp) (v : Byte) :
    busAfterWrite (stackByte s.sp) v s (push v t) := by
  obtain ⟨mem, map, log⟩ : t.mem = s.mem ∧ t.busMap = s.busMap ∧ t.busLog = s.busLog := by simpa using bus
  rw [← stackAddr_eq_stackByte, ← sp]
  exact busWrite_bus_congr _ v mem map log

theorem pull_eq_ramByte {s : State} (ram : s.target (stackByte (s.sp + 1#8)) = .ram) :
    pull s = (ramByte s (stackByte (s.sp + 1#8)), s.setSp (s.sp + 1#8)) := by
  rw [← stackAddr_eq_stackByte] at ram ⊢
  exact pull_ram ram

/-! ## Pushes -/

/-- A push handler is `Push` of A, or of P with bits 4 and 5 set (R34, R160, R161). -/
theorem handlerFn_push {h : Handler} (hh : h ∈ [Handler.pha, .php]) (o : Operand) (s : State) :
    handlerFn h o s = (false, push (if h = .pha then s.a else pbyte s.p ||| 0x10#8) s) := by
  fin_cases hh <;> rfl

/-- The state after PHA or PHP (R160, R161). -/
theorem exec_push {h : Handler} (hh : h ∈ [Handler.pha, .php]) {i : Instr} (e : encodes h i) (s : State) :
    exec i s = .next (push (if h = .pha then s.a else pbyte s.p ||| 0x10#8)
      { s with fetched := s.a, cycles := 3#8 }) := by
  obtain ⟨imp, base⟩ := rowsOf_push h hh _ (listed_of_encodes e)
  have pushes := handlerFn_push hh i.operand (atHandler i s)
  rw [← handler_of_encodes e] at pushes
  rw [exec_of_quiet pushes, handler_of_encodes e, atHandler_of_imp imp, Instr.entry, base]

/-- Settles O20: the state after a push is one write at the stack byte, then SP. -/
theorem pushesWriteThenDecrement : Obligations.PushesWriteThenDecrement := by
  unfold Obligations.PushesWriteThenDecrement
  intro h hh i s e hwf
  have bus := busAfterWrite_push (s := s) (t := { s with fetched := s.a, cycles := 3#8 }) rfl rfl
    (if h = .pha then s.a else pbyte s.p ||| 0x10#8)
  refine ⟨listed_of_encodes e, _, exec_push hh e s, ramByte_of_busAfterWrite bus hwf, bus,
    sameMemoryBut_of_busAfterWrite bus, ?sp, push_a _ _, push_x _ _, push_y _ _, push_p _ _, push_pc _ _, ?frame,
    push_cycles _ _⟩
  case sp => rw [push_sp, byte_pred_toNat]
  case frame => simp [impliedFrame, sameOuter]

/-! ## Pulls -/

/-- A pull handler is `Pull()` and then A with Z and N, or the combined write of P (R35, R162, R163). -/
theorem handlerFn_pull {h : Handler} (hh : h ∈ [Handler.pla, .plp]) (o : Operand) (s : State) :
    handlerFn h o s = (false, { (pull s).2 with
      a := if h = .pla then (pull s).1 else (pull s).2.a
      p := if h = .pla then withZN (pull s).1 (pull s).2.p else statusOf (pull s).1 }) := by
  fin_cases hh <;> rfl

/-- The state after PLA or PLP whose stack byte is plain RAM (R162, R163). -/
theorem exec_pull_ram {h : Handler} (hh : h ∈ [Handler.pla, .plp]) {i : Instr} (e : encodes h i) {s : State}
    (ram : s.target (stackByte (s.sp + 1#8)) = .ram) : exec i s = .next { s with
      sp := s.sp + 1#8
      a := if h = .pla then ramByte s (stackByte (s.sp + 1#8)) else s.a
      p := if h = .pla then zn (ramByte s (stackByte (s.sp + 1#8))) s.p
        else statusOf (ramByte s (stackByte (s.sp + 1#8)))
      fetched := s.a
      cycles := 4#8 } := by
  obtain ⟨imp, base⟩ := rowsOf_pull h hh _ (listed_of_encodes e)
  have pulls := handlerFn_pull hh i.operand (atHandler i s)
  rw [← handler_of_encodes e] at pulls
  rw [exec_of_quiet pulls, handler_of_encodes e, atHandler_of_imp imp, Instr.entry, base,
    pull_eq_ramByte (s := { s with fetched := s.a, cycles := 4#8 }) ram, withZN_eq_zn]
  rfl

/-- Settles O21: the state after a pull, field by field. -/
theorem pullsIncrementThenRead : Obligations.PullsIncrementThenRead := by
  unfold Obligations.PullsIncrementThenRead
  intro h hh i s e ram
  have frame : sameOuter s s := ⟨rfl, rfl, rfl, rfl⟩
  exact ⟨listed_of_encodes e, _, exec_pull_ram hh e ram, byte_succ_toNat s.sp, rfl, rfl, rfl, rfl, rfl,
    ⟨rfl, rfl, rfl, rfl, frame⟩, rfl, fun _ => rfl, rfl⟩

/-! ## The round trip -/

theorem encodes_pha : encodes .pha .pha := List.mem_singleton_self _

theorem encodes_pla : encodes .pla .pla := List.mem_singleton_self _

/-- Settles O22: PLA reads the byte PHA wrote, because its increment takes SP back to where it was (R58). -/
theorem phaThenPlaRestoresA : Obligations.PhaThenPlaRestoresA := by
  unfold Obligations.PhaThenPlaRestoresA
  intro s hwf ram
  obtain ⟨-, t, run, byte, -, -, sp, -, x, y, -, -, ⟨-, -, -, -, -, -, map, -⟩, -⟩ :=
    pushesWriteThenDecrement .pha (by decide) .pha s encodes_pha hwf
  have back : t.sp + 1#8 = s.sp := by bv_omega
  have target : t.target (stackByte (t.sp + 1#8)) = .ram := by rwa [back, State.target, map]
  have read : ramByte t (stackByte (t.sp + 1#8)) = s.a := by
    rw [back]
    exact byte ram
  exact ⟨t, run, fun a pc p => ⟨_, exec_pull_ram (by decide) encodes_pla target, read, back, x, y⟩⟩

end Sys2Proof.Machine
end

section
/-! PROOFS. The shift and rotate family (44_shift_rotate.md): ASL, LSR, ROL and ROR (R170 to R173), and the write-back
to A or to memory (R174). -/

namespace Sys2Proof.Machine

open Sys2Proof.Claims

/-! ## The arithmetic of the four, in the spelling of the statements -/

/-- The bit shifted out of an operand: bit 7 to the left, bit 0 to the right (R170 to R173). -/
def shiftOut (h : Handler) (m : Nat) : Bool :=
  if h = .asl ∨ h = .rol then decide (128 ≤ m) else decide (m % 2 = 1)

/-- The 8-bit result for an operand and the carry before (R170 to R173). -/
def shiftResult (h : Handler) (m : Nat) (c : Bool) : Nat :=
  if h = .asl then 2 * m % 256 else if h = .lsr then m / 2
    else if h = .rol then (2 * m + bit c) % 256 else m / 2 + 128 * bit c

/-- What a shift leaves in `temp`: the bit shifted out to the left is still there (R170 to R173). -/
def shiftTemp (h : Handler) (m : Nat) (c : Bool) : Nat :=
  if h = .asl then 2 * m else if h = .rol then 2 * m + bit c else shiftResult h m c

theorem bit_eq_toNat (b : Bool) : bit b = b.toNat := by cases b <;> rfl

/-- ASL is ROL with a 0 shifted in (R170, R172). -/
theorem shiftLeft_false (v : Byte) :
    v.setWidth 16 <<< 1 ||| (BitVec.ofBool false).setWidth 16 = v.setWidth 16 <<< 1 := BitVec.or_zero

/-- LSR is ROR with a 0 shifted in (R171, R173). -/
theorem shiftRight_false (v : Byte) :
    (BitVec.ofBool false).setWidth 16 <<< 7 ||| (v >>> 1).setWidth 16 = (v >>> 1).setWidth 16 := BitVec.zero_or

/-- A shift is `shiftTo` of the operand read, with the bit shifted out, and a word whose low byte is the result (R170 to
R173). -/
theorem handlerFn_shift {h : Handler} (hh : h ∈ [Handler.asl, .lsr, .rol, .ror]) (o : Operand) (s : State) :
    let m := (fetchOperand o s).1.toNat
    ∃ (out : Bool) (t : Word), handlerFn h o s = (false, shiftTo o out t (fetchOperand o s).2) ∧
      out = shiftOut h m ∧ (t.setWidth 8).toNat = shiftResult h m s.p.c ∧ t.toNat = shiftTemp h m s.p.c := by
  have left (c : Bool) := shiftLeft_facts c (fetchOperand o s).1
  have right (c : Bool) := shiftRight_facts c (fetchOperand o s).1
  simp only [← bit_eq_toNat] at left right
  rw [← fetchOperand_p o s]
  cases h
  case asl => exact ⟨_, _, rfl, shiftLeft_false (fetchOperand o s).1 ▸ left false⟩
  case lsr => exact ⟨_, _, rfl, shiftRight_false (fetchOperand o s).1 ▸ right false⟩
  case rol => exact ⟨_, _, rfl, left (fetchOperand o s).2.p.c⟩
  case ror => exact ⟨_, _, rfl, right (fetchOperand o s).2.p.c⟩
  all_goals simp at hh

/-- The flags of a shift as arithmetic on its 8-bit result (R170 to R173). -/
theorem withShift_eq (out : Bool) (v : Byte) (p : Status) :
    withShift out v p = { p with c := out, z := decide (v.toNat = 0), n := decide (128 ≤ v.toNat) } :=
  withZN_eq v { p with c := out }

/-- The state after a shift: no page cross is charged, because h = 0 (R170 to R174). -/
theorem exec_shift {h : Handler} (hh : h ∈ [Handler.asl, .lsr, .rol, .ror]) {i : Instr} (e : encodes h i)
    (s : State) :
    let m := (operandByte i s).toNat
    ∃ t : Word, exec i s = .next (shiftTo i.operand (shiftOut h m) t (operandRead i s).2) ∧
      (t.setWidth 8).toNat = shiftResult h m s.p.c ∧ t.toNat = shiftTemp h m s.p.c := by
  obtain rfl := handler_of_encodes e
  obtain ⟨_, t, shift, rfl, spec⟩ := handlerFn_shift hh i.operand (atHandler i s)
  rw [atHandler_p] at spec
  exact ⟨t, exec_of_quiet shift, spec⟩

/-- No shift is in mode REL, and those of A cost 2 cycles (R170 to R173). -/
theorem rowsOf_shift : ∀ h ∈ [Handler.asl, .lsr, .rol, .ror], ∀ r ∈ rowsOf h,
    r.2 ≠ .rel ∧ (r.2 = .imp → (table r.1).base = 2#8) := by decide

/-! ## On A -/

/-- The operand of mode IMP is A, which the resolver has copied to `fetched` (R111, R112). -/
theorem operandRead_of_imp {i : Instr} (hm : i.operand.mode = .imp) (s : State) :
    operandRead i s = (s.a, { s with fetched := s.a, cycles := i.entry.base }) := by
  rw [operandRead, operand_eq_imp_of_mode hm, atHandler_of_imp hm]
  rfl

/-- Settles O24: the state after a shift of A, field by field. -/
theorem shiftsOfTheAccumulator : Obligations.ShiftsOfTheAccumulator := by
  unfold Obligations.ShiftsOfTheAccumulator
  intro h hh i s e imp r out
  obtain ⟨-, base⟩ := rowsOf_shift h hh _ (listed_of_encodes e)
  have shift := exec_shift hh e s
  rw [operandByte, operandRead_of_imp imp, operand_eq_imp_of_mode imp] at shift
  obtain ⟨t, run, (low : (t.setWidth 8).toNat = r), word⟩ := shift
  have flags : withShift out (t.setWidth 8) s.p =
      { s.p with c := out, z := decide (r = 0), n := decide (128 ≤ r) } := by
    rw [withShift_eq, low]
  have outer : sameOuter s s := ⟨rfl, rfl, rfl, rfl⟩
  exact ⟨listed_of_encodes e, _, run, low, flags, rfl, rfl, rfl, rfl, rfl, rfl, rfl, word, outer, rfl, fun _ => rfl,
    base imp⟩

/-! ## On memory -/

/-- A shift of memory leaves the bus as one write of the result at `addr_abs` does (R174). -/
theorem busAfterWrite_shiftTo {o : Operand} (hm : o.mode ≠ .imp) (out : Bool) (t : Word) (s : State) :
    busAfterWrite s.addrAbs (t.setWidth 8) s (shiftTo o out t s) := by
  have write : shiftTo o out t s =
      busWrite s.addrAbs (t.setWidth 8) ((s.setTemp t).setP (withShift out (t.setWidth 8) s.p)) := by
    cases o with
    | imp => exact absurd rfl hm
    | _ => rfl
  rw [write]
  exact busWrite_bus_congr _ _ rfl rfl rfl

/-- A write at the effective address, after the operand read, changes that byte alone (R55). -/
theorem memory_of_busAfterWrite_operandRead {i : Instr} {v : Byte} {s t : State}
    (h : busAfterWrite (ea i s) v (operandRead i s).2 t) (hwf : s.mem.wf = true) :
    (s.target (ea i s) = .ram → ramByte t (ea i s) = v) ∧ sameMemoryBut [ea i s] s t := by
  constructor
  · exact fun ram => ramByte_of_busAfterWrite h (by rwa [operandRead_mem]) ((operandRead_target i s _).trans ram)
  · intro a ha
    rw [sameMemoryBut_of_busAfterWrite h a ha, ramByte, operandRead_mem, ramByte]

/-- A shift leaves the frame of the operand read as it is (R174). -/
theorem operandFrame_shiftTo {i : Instr} {s u : State} (h : operandFrame i s u) (o : Operand) (out : Bool) (t : Word) :
    operandFrame i s (shiftTo o out t u) := by
  simpa [operandFrame, sameOuter] using h

/-- Settles O25: the shift is the operand read and then one write of the result at the effective address. -/
theorem shiftsOfMemory : Obligations.ShiftsOfMemory := by
  unfold Obligations.ShiftsOfMemory
  intro h hh i s e notImp hwf m r out
  obtain ⟨notRel, -⟩ := rowsOf_shift h hh _ (listed_of_encodes e)
  obtain ⟨t, (run : exec i s = .next (shiftTo i.operand out t (operandRead i s).2)),
    (low : (t.setWidth 8).toNat = r), word⟩ := exec_shift hh e s
  have bus := busAfterWrite_shiftTo notImp out t (operandRead i s).2
  rw [operandRead_addrAbs, ← ea] at bus
  obtain ⟨byte, others⟩ := memory_of_busAfterWrite_operandRead bus hwf
  have value : BitVec.ofNat 8 r = t.setWidth 8 := by rw [← low, BitVec.ofNat_toNat, BitVec.setWidth_eq]
  refine ⟨listed_of_encodes e, _, run, ?byte, value.symm ▸ bus, others, ?flags, ?regs, ?temp,
    operandFrame_shiftTo (operandFrame_operandRead notRel s) _ _ _, ?cycles⟩
  case byte => exact fun ram => (congrArg BitVec.toNat (byte ram)).trans low
  case flags => rw [shiftTo_p, withShift_eq, low, operandRead_p]
  case regs => simp [sameRegs, shiftTo_a _ _ _ notImp]
  case temp => exact (congrArg BitVec.toNat (shiftTo_temp _ _ _ _)).trans word
  case cycles => rw [shiftTo_cycles, operandRead_cycles]

end Sys2Proof.Machine
end

section
/-! PROOFS. The control-flow family (45_control_flow.md): JMP (R180), JSR, RTS and their round trip (R181, R182), RTI
and BRK (R183, R184), and the eight branches (R185 to R193). -/

namespace Sys2Proof.Machine

open Sys2Proof.Claims

/-! ## JMP -/

/-- The state after an indirect jump in plain RAM (R121, R180). -/
theorem exec_jmpInd_of_allRam {s : State} (h : allRam s) (w : Word) :
    let target := ramWord s w (BitVec.ofNat 16 (w.toNat / 256 * 256 + (w.toNat + 1) % 256))
    exec (.jmpInd w) s = .next { s with pc := target, addrAbs := target, cycles := 5#8 } := by
  intro target
  obtain ⟨pointer, -⟩ := pointerResolversWrapInTheirPage (s.setCycles 5#8) 0#8 w h
  have resolved : atHandler (.jmpInd w) s = { s with pc := s.pc + 2#16, addrAbs := target, cycles := 5#8 } :=
    congrArg Prod.snd pointer
  exact exec_of_quiet (by rw [resolved]; rfl)

/-- Settles O36: the resolver leaves the target in `addr_abs`, and JMP takes PC from there. -/
theorem jmpGoesToTheResolvedAddress : Obligations.JmpGoesToTheResolvedAddress := by
  unfold Obligations.JmpGoesToTheResolvedAddress
  exact ⟨fun w s => exec_of_quiet (i := .jmpAbs w) rfl, fun w s h => exec_jmpInd_of_allRam h w⟩

/-! ## The stack bytes after pushes, in plain RAM -/

theorem stackByte_ne {a b : Byte} (h : a ≠ b) : stackByte a ≠ stackByte b := by
  rw [← stackAddr_eq_stackByte, ← stackAddr_eq_stackByte]
  exact stackAddr_ne h

theorem byte_sub_one_ne (b : Byte) : b ≠ b - 1#8 := by bv_omega

theorem byte_sub_one_sub_one (b : Byte) : b - 1#8 - 1#8 = b - 2#8 := by bv_omega

/-- A push changes the stack byte at SP alone (R58). -/
theorem ramByte_push_other {s : State} {a : Word} (h : a ≠ stackByte s.sp) (v : Byte) :
    ramByte (push v s) a = ramByte s a :=
  push_memRead_other (by rwa [stackAddr_eq_stackByte])

/-- Two pushes change the stack bytes at SP and below it alone (R58). -/
theorem sameMemoryBut_pushWord (w : Word) (s : State) :
    sameMemoryBut [stackByte s.sp, stackByte (s.sp - 1#8)] s (pushWord w s) := by
  intro a ha
  simp only [List.mem_cons, List.not_mem_nil, or_false, not_or] at ha
  obtain ⟨notHigh, notLow⟩ := ha
  rw [pushWord, ramByte_push_other (by rwa [push_sp]), ramByte_push_other notHigh]

section allRam
variable {s : State} (ram : allRam s)
include ram

theorem allRam_push (v : Byte) : allRam (push v s) := fun a => (push_target v s a).trans (ram a)

theorem allRam_pushWord (w : Word) : allRam (pushWord w s) := fun a => (pushWord_target w s a).trans (ram a)

/-- The accesses of two pushes (R56, R58). -/
theorem pushWord_busLog_of_allRam (w : Word) : (pushWord w s).busLog =
    .write (stackByte (s.sp - 1#8)) (loByte w) :: .write (stackByte s.sp) (hiByte w) :: s.busLog := by
  rw [pushWord, push_busLog (by simp [allRam_push ram _ _]), push_busLog (by simp [ram _]), push_sp,
    stackAddr_eq_stackByte, stackAddr_eq_stackByte, highByte_eq_hiByte, lowByte_eq_loByte]

variable (wf : s.mem.wf = true)
include wf

theorem ramByte_push_same (v : Byte) : ramByte (push v s) (stackByte s.sp) = v := by
  rw [← stackAddr_eq_stackByte]
  exact push_memRead_same wf (ram _)

/-- The high byte, pushed first, is at SP, and the low byte below it (R181). -/
theorem ramByte_pushWord (w : Word) :
    ramByte (pushWord w s) (stackByte s.sp) = hiByte w ∧
      ramByte (pushWord w s) (stackByte (s.sp - 1#8)) = loByte w := by
  have high : stackByte s.sp ≠ stackByte (push (highByte w) s).sp := by
    rw [push_sp]
    exact stackByte_ne (byte_sub_one_ne s.sp)
  have low := ramByte_push_same (allRam_push ram (highByte w)) ((push_steps .refl _).wf wf) (lowByte w)
  rw [push_sp, lowByte_eq_loByte] at low
  constructor
  · rw [pushWord, ramByte_push_other high, ramByte_push_same ram wf, highByte_eq_hiByte]
  · rwa [pushWord, lowByte_eq_loByte]

end allRam

/-! ## Pulls, in plain RAM -/

theorem pullWord_eq_ramWord {s : State} (h : allRam s) :
    pullWord s = (ramWord s (stackByte (s.sp + 1#8)) (stackByte (s.sp + 2#8)), s.setSp (s.sp + 2#8)) := by
  rw [pullWord_ram h, joinBytes_ramByte, stackAddr_eq_stackByte, stackAddr_eq_stackByte]

/-! ## JSR and RTS -/

/-- JSR pushes the address of its last byte and jumps to the target (R181). -/
theorem exec_jsr (w : Word) (s : State) : exec (.jsr w) s = .next
    ((pushWord (s.pc + 1#16) { s with pc := s.pc + 2#16, addrAbs := w, cycles := 6#8 }).setPc w) := by
  have last : s.pc + 2#16 - 1#16 = s.pc + 1#16 := by bv_omega
  rw [← last]
  exact exec_of_quiet (i := .jsr w) (congrArg (fun pc => (false, State.setPc pc _)) (pushWord_addrAbs _ _))

/-- Settles O37: two pushes from the state after the resolver, then PC. -/
theorem jsrPushesTheLastByteOfTheCall : Obligations.JsrPushesTheLastByteOfTheCall := by
  unfold Obligations.JsrPushesTheLastByteOfTheCall
  intro w s ram wf
  let resolved : State := { s with pc := s.pc + 2#16, addrAbs := w, cycles := 6#8 }
  have resolvedRam : allRam resolved := ram
  obtain ⟨high, low⟩ := ramByte_pushWord resolvedRam wf (s.pc + 1#16)
  refine ⟨rfl, _, exec_jsr w s, high, low, sameMemoryBut_pushWord _ resolved, ?sp, rfl, pushWord_addrAbs _ _,
    pushWord_a _ _, pushWord_x _ _, pushWord_y _ _, pushWord_p _ _, pushWord_addrRel _ _, pushWord_fetched _ _,
    pushWord_temp _ _, ?outer, pushWord_busLog_of_allRam resolvedRam _, pushWord_cycles _ _⟩
  case sp => exact (pushWord_sp _ _).trans (byte_sub_one_sub_one s.sp)
  case outer => simp [sameOuter]

/-- Settles O38: a pulled word, plus one, from the state after the resolver of mode IMP. -/
theorem rtsReturnsPastThePulledAddress : Obligations.RtsReturnsPastThePulledAddress := by
  unfold Obligations.RtsReturnsPastThePulledAddress
  intro s ram
  refine ⟨rfl, exec_of_quiet (i := .rts) ?_⟩
  have pulled := pullWord_eq_ramWord (s := atHandler .rts s) ram
  exact congrArg (fun r : Word × State => (false, r.2.setPc (r.1 + 1#16))) pulled

theorem word_of_hiByte_loByte (w : Word) : BitVec.ofNat 16 ((hiByte w).toNat * 256 + (loByte w).toNat) = w := by
  apply BitVec.eq_of_toNat_eq
  rw [← highByte_eq_hiByte, ← lowByte_eq_loByte, highByte_toNat, lowByte_toNat, BitVec.toNat_ofNat]
  omega

/-- Settles O41: RTS pulls the two bytes JSR pushed, the address of the last byte of the JSR, and adds one to it. -/
theorem jsrThenRtsReturnsAfterTheCall : Obligations.JsrThenRtsReturnsAfterTheCall := by
  unfold Obligations.JsrThenRtsReturnsAfterTheCall
  intro w s ram wf
  obtain ⟨-, t, run, high, low, -, sp, -⟩ := jsrPushesTheLastByteOfTheCall w s ram wf
  refine ⟨t, run, fun u ramU spU lowU highU => ?_⟩
  obtain ⟨-, back⟩ := rtsReturnsPastThePulledAddress u ramU
  have one : t.sp + 1#8 = s.sp - 1#8 := by rw [sp]; bv_omega
  have two : t.sp + 2#8 = s.sp := by rw [sp]; bv_omega
  rw [one, low] at lowU
  rw [two, high] at highU
  have pulled : ramWord u (stackByte (u.sp + 1#8)) (stackByte (u.sp + 2#8)) = s.pc + 1#16 := by
    rw [spU, one, two, ramWord, lowU, highU, word_of_hiByte_loByte]
  refine ⟨_, back, ?pc, (congrArg (· + 2#8) spU).trans two, rfl, rfl, rfl, rfl⟩
  rw [pulled]
  bv_omega

/-! ## BRK and RTI -/

/-- A return from an interrupt in plain RAM: P from the first byte with B cleared, PC from the next two (R183, R307). -/
theorem returnFromInterrupt_of_allRam {s : State} (ram : allRam s) : returnFromInterrupt s = { s with
    p := { statusOf (ramByte s (stackByte (s.sp + 1#8))) with b := false }
    pc := ramWord s (stackByte (s.sp + 2#8)) (stackByte (s.sp + 3#8))
    sp := s.sp + 3#8 } := by
  have flagsPulled (p : Status) : allRam ((s.setSp (s.sp + 1#8)).setP p) := ram
  simp only [returnFromInterrupt, pull_eq_ramByte (ram _)]
  rw [pullWord_eq_ramWord (flagsPulled _)]
  simp only [State.setP_sp, State.setSp_sp, BitVec.add_assoc]
  rfl

/-- Settles O39: the return from an interrupt, from the state after the resolver of mode IMP. -/
theorem rtiRestoresFlagsAndPc : Obligations.RtiRestoresFlagsAndPc := by
  unfold Obligations.RtiRestoresFlagsAndPc
  intro s ram m
  have returned := returnFromInterrupt_of_allRam (s := atHandler .rti s) ram
  exact ⟨rfl, exec_of_quiet (i := .rti) (congrArg (Prod.mk false) returned)⟩

/-- The bytes an interrupt entry leaves in memory are those of its three pushes (R184, R306). -/
theorem ramByte_enterInterrupt (k : Bool) (v : Word) (s : State) (a : Word) :
    ramByte (enterInterrupt k v s) a = ramByte (push (pushedStatus k s.p) (pushWord s.pc s)) a :=
  congrArg (memRead · a.toNat) (enterInterrupt_mem k v s)

/-- An interrupt entry changes the three stack bytes from SP down alone (R306). -/
theorem sameMemoryBut_enterInterrupt (k : Bool) (v : Word) (s : State) :
    sameMemoryBut [stackByte s.sp, stackByte (s.sp - 1#8), stackByte (s.sp - 2#8)] s (enterInterrupt k v s) := by
  intro a ha
  have notPushed : a ∉ [stackByte s.sp, stackByte (s.sp - 1#8)] ∧ a ≠ stackByte (s.sp - 2#8) := by
    simpa [and_assoc] using ha
  obtain ⟨notWord, notStatus⟩ := notPushed
  rw [ramByte_enterInterrupt, ramByte_push_other (by rwa [pushWord_sp, byte_sub_one_sub_one]),
    sameMemoryBut_pushWord _ _ a notWord]

/-- An address outside page 1 is no stack byte (R23). -/
theorem ne_stackByte {a : Word} (h : a.toNat / 256 ≠ 1) (b : Byte) : a ≠ stackByte b := by
  rintro rfl
  rw [← stackAddr_eq_stackByte, stackAddr_toNat] at h
  omega

section enterInterruptRam
variable {s : State} (ram : allRam s) (k : Bool) (v : Word)
include ram

/-- PC is the word at the vector as it stands after the pushes (R306). -/
theorem enterInterrupt_pc_of_allRam :
    (enterInterrupt k v s).pc = ramWord (enterInterrupt k v s) v (v + 1#16) := by
  rw [← joinBytes_ramByte]
  exact congrArg State.pc (enterInterrupt_ram k v ram)

theorem enterInterrupt_busLog_of_allRam : (enterInterrupt k v s).busLog =
    .write (stackByte (s.sp - 2#8)) (pushedStatus k s.p) :: .write (stackByte (s.sp - 1#8)) (loByte s.pc) ::
      .write (stackByte s.sp) (hiByte s.pc) :: s.busLog := by
  simp only [← stackAddr_eq_stackByte, ← lowByte_eq_loByte, ← highByte_eq_hiByte]
  exact congrArg State.busLog (enterInterrupt_ram k v ram)

/-- The three bytes an interrupt entry pushes: PC high, PC low and the status (R184, R306). -/
theorem ramByte_enterInterrupt_pushed (wf : s.mem.wf = true) :
    ramByte (enterInterrupt k v s) (stackByte s.sp) = hiByte s.pc ∧
      ramByte (enterInterrupt k v s) (stackByte (s.sp - 1#8)) = loByte s.pc ∧
      ramByte (enterInterrupt k v s) (stackByte (s.sp - 2#8)) = pushedStatus k s.p := by
  obtain ⟨high, low⟩ := ramByte_pushWord ram wf s.pc
  have status := ramByte_push_same (allRam_pushWord ram s.pc) ((pushWord_steps .refl _).wf wf) (pushedStatus k s.p)
  have sp : (pushWord s.pc s).sp = s.sp - 2#8 := (pushWord_sp _ _).trans (byte_sub_one_sub_one s.sp)
  have kept {b : Byte} (hb : b ≠ s.sp - 2#8) :
      ramByte (enterInterrupt k v s) (stackByte b) = ramByte (pushWord s.pc s) (stackByte b) := by
    rw [ramByte_enterInterrupt, ramByte_push_other (by rw [sp]; exact stackByte_ne hb)]
  refine ⟨(kept (by bv_omega)).trans high, (kept (by bv_omega)).trans low, ?_⟩
  rw [ramByte_enterInterrupt, ← sp]
  exact status

end enterInterruptRam

/-- BRK is the interrupt entry with bit 4 set, from the state after the resolver of the padding byte (R184). -/
theorem exec_brk (s : State) : exec .brk s = .next
    (enterInterrupt true Config.irqVector { s with pc := s.pc + 1#16, addrAbs := s.pc, cycles := 7#8 }) :=
  exec_of_quiet (i := .brk) rfl

/-- Settles O40: an interrupt entry, whose pushes stay clear of the vector. -/
theorem brkEntersThroughTheIrqVector : Obligations.BrkEntersThroughTheIrqVector := by
  unfold Obligations.BrkEntersThroughTheIrqVector
  intro s ram wf
  let resolved : State := { s with pc := s.pc + 1#16, addrAbs := s.pc, cycles := 7#8 }
  have resolvedRam : allRam resolved := ram
  obtain ⟨high, low, status⟩ := ramByte_enterInterrupt_pushed resolvedRam true Config.irqVector wf
  have others := sameMemoryBut_enterInterrupt true Config.irqVector resolved
  have vector {a : Word} (ha : a.toNat / 256 ≠ 1) :
      ramByte (enterInterrupt true Config.irqVector resolved) a = ramByte s a :=
    others a (by simp [ne_stackByte ha])
  refine ⟨rfl, _, exec_brk s, high, low, status, others, ?sp, enterInterrupt_p _ _ _, ?pc,
    enterInterrupt_addrAbs _ _ _, enterInterrupt_a _ _ _, enterInterrupt_x _ _ _, enterInterrupt_y _ _ _,
    enterInterrupt_addrRel _ _ _, enterInterrupt_fetched _ _ _, enterInterrupt_temp _ _ _, ?outer,
    enterInterrupt_busLog_of_allRam resolvedRam _ _, enterInterrupt_cycles _ _ _⟩
  case sp =>
    rw [enterInterrupt_sp, BitVec.sub_sub, BitVec.sub_sub]
    rfl
  case pc =>
    refine (enterInterrupt_pc_of_allRam resolvedRam _ _).trans ?_
    rw [ramWord, vector (by decide), vector (by decide)]
    rfl
  case outer => simp [sameOuter]

/-! ## Branches -/

/-- The eight branches test a flag (R186 to R193). -/
theorem branchTaken_eq_some {h : Handler} (hh : h ∈ [Handler.bcc, .bcs, .beq, .bmi, .bne, .bpl, .bvc, .bvs])
    (p : Status) : ∃ c, branchTaken h p = some c := by
  fin_cases hh <;> exact ⟨_, rfl⟩

/-- Mode REL alone has a displacement byte (R117). -/
theorem operand_eq_rel_of_mode {o : Operand} (h : o.mode = .rel) : ∃ b, o = .rel b := by
  cases o with
  | rel b => exact ⟨b, rfl⟩
  | _ => cases h

/-- A branch runs its shared body from the state after the resolver, whose PC is the next instruction's (R117, R185). -/
theorem exec_of_branchTaken {i : Instr} {s : State} {c : Bool} (hc : branchTaken i.handler s.p = some c) :
    ∃ b, i.operand = .rel b ∧
      exec i s = .next (branch c { s with pc := s.pc + 1#16, addrRel := signExtend b, cycles := 2#8 }) := by
  have rel := mode_of_branchTaken hc
  obtain ⟨-, -, base, -⟩ := entry_base_bounds i
  obtain ⟨b, ho⟩ := operand_eq_rel_of_mode rel
  have resolved : atHandler i s = { s with pc := s.pc + 1#16, addrRel := signExtend b, cycles := 2#8 } := by
    rw [atHandler, ho, base rel]
    rfl
  refine ⟨b, ho, exec_of_quiet ?_⟩
  rw [← resolved]
  exact handlerFn_of_branchTaken (by rwa [atHandler_p])

/-- A taken branch adds 1 to `cycles`, and 2 when its target is in another page (R185). -/
theorem branch_true_cycles (s : State) : (branch true s).cycles =
    s.cycles + if (s.pc + s.addrRel).toNat / 256 = s.pc.toNat / 256 then 1#8 else 2#8 := by
  simp only [← highByte_eq_iff]
  rfl

/-- A word plus a signed displacement, mod 2^16 (R185). -/
theorem add_signExtend_toNat (w : Word) (b : Byte) :
    ((w + signExtend b).toNat : Int) = ((w.toNat : Int) + b.toInt) % 65536 := by
  rw [← signExtend_toInt, BitVec.toInt_eq_toNat_cond, BitVec.toNat_add]
  omega

/-- Settles O42: the branch's shared body, taken and not taken. -/
theorem branchesTestTheirFlag : Obligations.BranchesTestTheirFlag := by
  unfold Obligations.BranchesTestTheirFlag
  intro h hh i s e
  obtain ⟨c, hc⟩ := branchTaken_eq_some hh s.p
  have hci : branchTaken i.handler s.p = some c := by rwa [handler_of_encodes e]
  obtain ⟨b, ho, run⟩ := exec_of_branchTaken hci
  refine ⟨listed_of_encodes e, b, _, ho, run, ?taken, ?notTaken, ?addrRel, branch_p _ _, ?regs, branch_fetched _ _,
    branch_temp _ _, ?outer, branch_busLog _ _, ?memory⟩
  case taken =>
    intro taken
    obtain rfl : c = true := Option.some.inj (hc.symm.trans taken)
    exact ⟨add_signExtend_toNat _ _, rfl, (branch_true_cycles _).trans (apply_ite (2#8 + ·) _ _ _)⟩
  case notTaken =>
    intro notTaken
    obtain rfl : c = false := Bool.eq_false_iff.2 fun t => notTaken (t ▸ hc)
    exact ⟨rfl, rfl, rfl⟩
  case addrRel => rw [branch_addrRel, signExtend_toInt]
  case regs => simp [sameRegs]
  case outer => simp [sameOuter]
  case memory => exact fun a => congrArg (memRead · a.toNat) (branch_mem _ _)

end Sys2Proof.Machine
end

section
/-! PROOFS. The flag family (46_flag_ops.md): CLC, CLD, CLI, CLV, SEC, SED and SEI (R210 to R216). -/

namespace Sys2Proof.Machine

open Sys2Proof.Claims

/-- Every flag instruction is in mode IMP, at 2 cycles (R210 to R216). -/
theorem rowsOf_flag : ∀ h ∈ [Handler.clc, .cld, .cli, .clv, .sec, .sed, .sei], ∀ r ∈ rowsOf h,
    r.2 = .imp ∧ (table r.1).base = 2#8 := by decide

/-- A flag instruction clears or sets its one flag (R210 to R216). -/
theorem handlerFn_flag {h : Handler} (hh : h ∈ [Handler.clc, .cld, .cli, .clv, .sec, .sed, .sei]) (o : Operand)
    (s : State) : handlerFn h o s = (false, s.setP { s.p with
      c := if h = .clc then false else if h = .sec then true else s.p.c
      d := if h = .cld then false else if h = .sed then true else s.p.d
      i := if h = .cli then false else if h = .sei then true else s.p.i
      v := if h = .clv then false else s.p.v }) := by
  fin_cases hh <;> rfl

/-- Settles O34: the one flag written, from the state after the resolver of mode IMP. -/
theorem flagInstructionsWriteOneFlag : Obligations.FlagInstructionsWriteOneFlag := by
  unfold Obligations.FlagInstructionsWriteOneFlag
  intro h hh i s e
  obtain ⟨imp, base⟩ := rowsOf_flag h hh _ (listed_of_encodes e)
  have flag := handlerFn_flag hh i.operand (atHandler i s)
  rw [← handler_of_encodes e] at flag
  refine ⟨listed_of_encodes e, ?_⟩
  rw [exec_of_quiet flag, handler_of_encodes e, atHandler_of_imp imp, Instr.entry, base]
  rfl

end Sys2Proof.Machine
end

section
/-! PROOFS. The ALU family (47_alu.md): ADC and SBC (R220 to R222), AND, ORA and EOR (R223 to R225), BIT (R226), the
compares (R227 to R230), and the increments and decrements of memory, X and Y (R231 to R236). -/

namespace Sys2Proof.Machine

open Sys2Proof.Claims

/-! ## What the instructions with a memory operand share -/

/-- No instruction of the family with an operand takes it as a displacement (R221 to R232). -/
theorem rowsOf_alu : ∀ h ∈ [Handler.adc, .sbc, .and, .ora, .eor, .bit, .cmp, .cpx, .cpy, .inc, .dec],
    ∀ r ∈ rowsOf h, r.2 ≠ .rel := by decide

/-- The operand read leaves every byte of memory as it is (R51, R111). -/
theorem sameMemory_operandRead (i : Instr) (s : State) : sameMemory s (operandRead i s).2 :=
  fun a => congrArg (memRead · a.toNat) (operandRead_mem i s)

/-- The operand read changes no register (R111). -/
theorem sameRegs_operandRead (i : Instr) (s : State) : sameRegs s (operandRead i s).2 :=
  ⟨operandRead_a i s, operandRead_x i s, operandRead_y i s, operandRead_sp i s⟩

/-! ## The sum of ADC and SBC as arithmetic -/

theorem bit_le_one (b : Bool) : bit b ≤ 1 := bit_eq_toNat b ▸ Bool.toNat_le b

theorem complement_toNat (m : Byte) : (m ^^^ 0xFF#8).toNat = 255 - m.toNat := by
  rw [show (0xFF#8 : Byte) = BitVec.allOnes 8 from rfl, BitVec.xor_allOnes, BitVec.toNat_not]

theorem complement_toInt (m : Byte) : (m ^^^ 0xFF#8).toInt = -1 - m.toInt := by
  rw [BitVec.toInt_eq_toNat_cond, BitVec.toInt_eq_toNat_cond, complement_toNat]
  omega

/-- The result and the carry are the exact 9-bit sum (R221). -/
theorem sum9_split (a m : Byte) (c : Bool) :
    ((sum9 a m c).setWidth 8).toNat + 256 * bit (sumCarry (sum9 a m c)) = a.toNat + m.toNat + bit c := by
  have carry := Bool.toNat_le c
  rw [sum9_low_toNat, sumCarry_eq, bit_eq_toNat c, bit]
  simp only [decide_eq_true_eq]
  split <;> omega

/-- The flags of ADC: V says that the signed sum does not fit (R221). -/
theorem withSum_eq (a m : Byte) (p : Status) : withSum a m p = zn ((sum9 a m p.c).setWidth 8)
    { p with c := sumCarry (sum9 a m p.c)
             v := decide (a.toInt + m.toInt + bit p.c < -128 ∨ 127 < a.toInt + m.toInt + bit p.c) } := by
  rw [withSum, withZN_eq_zn, sumOverflow_eq, bit_eq_toNat]

/-- Adding the one's complement and C subtracts the operand and the borrow (R222). -/
theorem sum9_complement_low (a m : Byte) (c : Bool) :
    (((sum9 a (m ^^^ 0xFF#8) c).setWidth 8).toNat : Int) = ((a.toNat : Int) - m.toNat - (1 - bit c)) % 256 := by
  rw [sum9_low_toNat, complement_toNat, bit_eq_toNat]
  omega

/-- The flags of SBC: C says there was no borrow, V that the signed difference does not fit (R222). -/
theorem withSum_complement (a m : Byte) (p : Status) :
    let d : Int := a.toInt - m.toInt - (1 - bit p.c)
    withSum a (m ^^^ 0xFF#8) p = zn ((sum9 a (m ^^^ 0xFF#8) p.c).setWidth 8)
      { p with c := decide (m.toNat + (1 - bit p.c) ≤ a.toNat), v := decide (d < -128 ∨ 127 < d) } := by
  intro d
  have carry := bit_le_one p.c
  have noBorrow : sumCarry (sum9 a (m ^^^ 0xFF#8) p.c) = decide (m.toNat + (1 - bit p.c) ≤ a.toNat) := by
    rw [sumCarry_eq, complement_toNat, ← bit_eq_toNat, decide_eq_decide]
    omega
  have signed : a.toInt + (m ^^^ 0xFF#8).toInt + bit p.c = d := by
    rw [complement_toInt]
    omega
  rw [withSum_eq, noBorrow, signed]

/-! ## ADC and SBC -/

/-- What ADC and SBC add to A: the operand, or its one's complement (R221, R222). -/
def addend (h : Handler) (m : Byte) : Byte := if h = .adc then m else m ^^^ 0xFF#8

/-- The addition writes A, P and `temp` (R221). -/
theorem addToA_eq (m : Byte) (s : State) : addToA m s = { s with
    a := (sum9 s.a m s.p.c).setWidth 8
    p := withSum s.a m s.p
    temp := sum9 s.a m s.p.c } := rfl

/-- ADC and SBC add their addend to A and request the page-cross cycle (R221, R222). -/
theorem handlerFn_addition {h : Handler} (hh : h ∈ [Handler.adc, .sbc]) (o : Operand) (s : State) :
    handlerFn h o s = (true, addToA (addend h (fetchOperand o s).1) (fetchOperand o s).2) := by
  fin_cases hh <;> rfl

/-- The state after ADC or SBC (R221, R222). -/
theorem exec_addition {h : Handler} (hh : h ∈ [Handler.adc, .sbc]) {i : Instr} (e : encodes h i) (s : State) :
    exec i s = .next { (operandRead i s).2 with
      a := (sum9 s.a (addend h (operandByte i s)) s.p.c).setWidth 8
      p := withSum s.a (addend h (operandByte i s)) s.p
      temp := sum9 s.a (addend h (operandByte i s)) s.p.c
      cycles := pageCost i s } := by
  have adds : handlerFn i.handler i.operand (atHandler i s) =
      (true, addToA (addend h (operandByte i s)) (operandRead i s).2) :=
    handler_of_encodes e ▸ handlerFn_addition hh _ _
  rw [exec_of_requesting adds (operandRead_cycles i s), addToA_eq, operandRead_a, operandRead_p]
  rfl

/-- Settles O26: the exact sum of `sum9_split`, with the flags of `withSum_eq`. -/
theorem adcIsTheExactNineBitSum : Obligations.AdcIsTheExactNineBitSum := by
  unfold Obligations.AdcIsTheExactNineBitSum
  intro i s e m
  have notRel := rowsOf_alu .adc (by decide) _ (listed_of_encodes e)
  have temp : (sum9 s.a m s.p.c).toNat = s.a.toNat + m.toNat + bit s.p.c := by rw [sum9_toNat, bit_eq_toNat]
  exact ⟨listed_of_encodes e, _, exec_addition (by decide) e s, sum9_split s.a m s.p.c, withSum_eq s.a m s.p, temp,
    operandRead_x i s, operandRead_y i s, operandRead_sp i s, operandFrame_operandRead notRel s, rfl,
    sameMemory_operandRead i s, rfl⟩

/-- Settles O27: the sum with the one's complement, as a subtraction with borrow. -/
theorem sbcSubtractsWithBorrow : Obligations.SbcSubtractsWithBorrow := by
  unfold Obligations.SbcSubtractsWithBorrow
  intro i s e m d
  have notRel := rowsOf_alu .sbc (by decide) _ (listed_of_encodes e)
  have temp : (sum9 s.a (m ^^^ 0xFF#8) s.p.c).toNat = s.a.toNat + (255 - m.toNat) + bit s.p.c := by
    rw [sum9_toNat, complement_toNat, bit_eq_toNat]
  exact ⟨listed_of_encodes e, _, exec_addition (by decide) e s, sum9_complement_low s.a m s.p.c,
    withSum_complement s.a m s.p, temp, operandRead_x i s, operandRead_y i s, operandRead_sp i s,
    operandFrame_operandRead notRel s, rfl, sameMemory_operandRead i s, rfl⟩

/-! ## D has no part in ADC and SBC: the operand read does not look at P -/

theorem busRead_setP (a : Word) (q : Status) (s : State) :
    busRead a (s.setP q) = ((busRead a s).1, (busRead a s).2.setP q) := by
  cases h : s.target a <;> simp only [busRead, busReadOn, State.setP_target, h] <;> rfl

theorem resolve_setP (o : Operand) (q : Status) (s : State) :
    resolve o (s.setP q) = ((resolve o s).1, (resolve o s).2.setP q) := by
  have past (k : Word) : (s.setP q).setPc k = (s.setPc k).setP q := rfl
  cases o with
  | ind w =>
    simp only [resolve, readIndirect, State.setP_pc, past, busRead_setP]
    rfl
  | izx b | izy b =>
    simp only [resolve, readZeroPagePointer, State.setP_pc, past, busRead_setP]
    rfl
  | _ => rfl

theorem fetchOperand_setP (o : Operand) (q : Status) (s : State) :
    fetchOperand o (s.setP q) = ((fetchOperand o s).1, (fetchOperand o s).2.setP q) := by
  cases o with
  | imp | imm v => rfl
  | _ =>
    simp only [fetchOperand, State.setP_addrAbs, busRead_setP]
    rfl

theorem atHandler_setP (i : Instr) (q : Status) (s : State) : atHandler i (s.setP q) = (atHandler i s).setP q :=
  congrArg Prod.snd (resolve_setP i.operand q (s.setCycles i.entry.base))

theorem pageCrossed_setP (i : Instr) (q : Status) (s : State) : pageCrossed i (s.setP q) = pageCrossed i s :=
  (congrArg Prod.fst (resolve_setP i.operand q (s.setCycles i.entry.base)) :)

theorem operandRead_setP (i : Instr) (q : Status) (s : State) :
    operandRead i (s.setP q) = (operandByte i s, (operandRead i s).2.setP q) := by
  rw [operandRead, atHandler_setP, fetchOperand_setP]
  rfl

theorem pageCost_setP (i : Instr) (q : Status) (s : State) : pageCost i (s.setP q) = pageCost i s := by
  rw [pageCost, pageCrossed_setP, pageCost]

/-- Settles O33: the operand read does not look at P, and the sum takes only C from it (R220). -/
theorem decimalFlagChangesNoResult : Obligations.DecimalFlagChangesNoResult := by
  unfold Obligations.DecimalFlagChangesNoResult
  intro i s d hi
  obtain ⟨h, hh, e⟩ : ∃ h ∈ [Handler.adc, .sbc], encodes h i := by simpa using hi
  have other := exec_addition hh e (s.setP { s.p with d := d })
  rw [operandByte, operandRead_setP, pageCost_setP] at other
  exact ⟨_, exec_addition hh e s, rfl, other⟩

/-! ## AND, ORA and EOR -/

/-- The bitwise operation of each logic handler (R223 to R225). -/
def logicResult (h : Handler) (a m : Byte) : Byte :=
  if h = .and then a &&& m else if h = .ora then a ||| m else a ^^^ m

theorem logicResult_getLsbD (h : Handler) (a m : Byte) (k : Nat) : (logicResult h a m).getLsbD k =
    if h = .and then a.getLsbD k && m.getLsbD k else if h = .ora then a.getLsbD k || m.getLsbD k
      else a.getLsbD k != m.getLsbD k := by
  unfold logicResult
  split
  · exact BitVec.getLsbD_and
  · split
    · exact BitVec.getLsbD_or
    · exact BitVec.getLsbD_xor

/-- A logic result goes to A, and Z and N come from it (R223 to R225). -/
theorem logicToA_eq (v : Byte) (s : State) : logicToA v s = { s with a := v, p := zn v s.p } :=
  congrArg (State.setP · (s.setA v)) (withZN_eq_zn v s.p)

/-- A logic handler takes its result to A and requests the page-cross cycle (R223 to R225). -/
theorem handlerFn_logic {h : Handler} (hh : h ∈ [Handler.and, .ora, .eor]) (o : Operand) (s : State) :
    handlerFn h o s = (true,
      logicToA (logicResult h (fetchOperand o s).2.a (fetchOperand o s).1) (fetchOperand o s).2) := by
  fin_cases hh <;> rfl

/-- The state after AND, ORA or EOR (R223 to R225). -/
theorem exec_logic {h : Handler} (hh : h ∈ [Handler.and, .ora, .eor]) {i : Instr} (e : encodes h i) (s : State) :
    exec i s = .next { (operandRead i s).2 with
      a := logicResult h s.a (operandByte i s)
      p := zn (logicResult h s.a (operandByte i s)) s.p
      cycles := pageCost i s } := by
  have logic : handlerFn i.handler i.operand (atHandler i s) =
      (true, logicToA (logicResult h (operandRead i s).2.a (operandByte i s)) (operandRead i s).2) :=
    handler_of_encodes e ▸ handlerFn_logic hh _ _
  rw [exec_of_requesting logic (operandRead_cycles i s), logicToA_eq, operandRead_a, operandRead_p]
  rfl

/-- Settles O28: the result bit by bit, and Z and N from it. -/
theorem logicWritesAAndSetsZN : Obligations.LogicWritesAAndSetsZN := by
  unfold Obligations.LogicWritesAAndSetsZN
  intro h hh i s e
  have notRel := rowsOf_alu h (List.Sublist.mem hh (by decide)) _ (listed_of_encodes e)
  exact ⟨listed_of_encodes e, _, exec_logic hh e s, logicResult_getLsbD h s.a (operandByte i s), rfl,
    operandRead_temp i s, operandRead_x i s, operandRead_y i s, operandRead_sp i s,
    operandFrame_operandRead notRel s, rfl, sameMemory_operandRead i s, rfl⟩

/-! ## BIT -/

/-- BIT costs 3 in mode ZP and 4 in mode ABS (R226). -/
theorem rowsOf_bit : ∀ r ∈ rowsOf .bit, (table r.1).base = if r.2 = .zp then 3#8 else 4#8 := by decide

theorem and_toNat_word (a m : Byte) : ((a &&& m).setWidth 16).toNat = a.toNat &&& m.toNat := by
  rw [BitVec.toNat_setWidth_of_le (by decide), BitVec.toNat_and]

/-- The flags of BIT as arithmetic (R226). -/
theorem withBit_eq (a m : Byte) (p : Status) : withBit a m p =
    { p with z := decide (a.toNat &&& m.toNat = 0), n := m.toNat.testBit 7, v := m.toNat.testBit 6 } := by
  have zero : ((a &&& m) == 0x00#8) = decide (a.toNat &&& m.toNat = 0) := by
    rw [beq_eq_decide, decide_eq_decide, BitVec.toNat_eq, BitVec.toNat_and]
    rfl
  rw [withBit, zero]
  rfl

/-- The state after BIT (R226). -/
theorem exec_bit {i : Instr} (e : encodes .bit i) (s : State) : exec i s = .next { (operandRead i s).2 with
    temp := (s.a &&& operandByte i s).setWidth 16
    p := withBit s.a (operandByte i s) s.p } := by
  refine exec_of_quiet ?_
  rw [handler_of_encodes e, ← operandRead_a i s, ← operandRead_p i s]
  rfl

/-- Settles O29: the state after BIT, with the flags of `withBit_eq`. -/
theorem bitTestsWithoutWritingA : Obligations.BitTestsWithoutWritingA := by
  unfold Obligations.BitTestsWithoutWritingA
  intro i s e m
  have notRel := rowsOf_alu .bit (by decide) _ (listed_of_encodes e)
  have cost := rowsOf_bit _ (listed_of_encodes e)
  exact ⟨listed_of_encodes e, _, exec_bit e s, withBit_eq s.a m s.p, and_toNat_word s.a m,
    sameRegs_operandRead i s, operandFrame_operandRead notRel s, rfl, sameMemory_operandRead i s,
    (operandRead_cycles i s).trans cost⟩

/-! ## CMP, CPX and CPY -/

/-- The register a compare takes (R228 to R230). -/
def comparedRegister (h : Handler) (s : State) : Byte := if h = .cmp then s.a else if h = .cpx then s.x else s.y

/-- A comparison writes its flags and `temp` (R227). -/
theorem compareWith_eq (r m : Byte) (s : State) :
    compareWith r m s = { s with temp := difference r m, p := withCompare r m s.p } := rfl

/-- A compare takes its register and the operand, and CMP alone requests the page-cross cycle (R227 to R230). -/
theorem handlerFn_compare {h : Handler} (hh : h ∈ [Handler.cmp, .cpx, .cpy]) (o : Operand) (s : State) :
    handlerFn h o s = (decide (h = .cmp),
      compareWith (comparedRegister h (fetchOperand o s).2) (fetchOperand o s).1 (fetchOperand o s).2) := by
  fin_cases hh <;> rfl

theorem comparedRegister_operandRead (h : Handler) (i : Instr) (s : State) :
    comparedRegister h (operandRead i s).2 = comparedRegister h s := by
  simp only [comparedRegister, operandRead_a, operandRead_x, operandRead_y]

/-- The state after a compare (R227 to R230). -/
theorem exec_compare {h : Handler} (hh : h ∈ [Handler.cmp, .cpx, .cpy]) {i : Instr} (e : encodes h i) (s : State) :
    exec i s = .next { (operandRead i s).2 with
      temp := difference (comparedRegister h s) (operandByte i s)
      p := withCompare (comparedRegister h s) (operandByte i s) s.p
      cycles := if h = .cmp then pageCost i s else i.entry.base } := by
  have compares : handlerFn i.handler i.operand (atHandler i s) = (decide (h = .cmp),
      compareWith (comparedRegister h (operandRead i s).2) (operandByte i s) (operandRead i s).2) :=
    handler_of_encodes e ▸ handlerFn_compare hh _ _
  rw [comparedRegister_operandRead, compareWith_eq, operandRead_p] at compares
  by_cases cmp : h = .cmp
  · rw [decide_eq_true cmp] at compares
    rw [exec_of_requesting compares (operandRead_cycles i s), if_pos cmp]
    rfl
  · rw [decide_eq_false cmp] at compares
    rw [exec_of_quiet compares, if_neg cmp, operandRead_cycles]

/-- Settles O30: the state after a compare, with the flags of `withCompare_eq`. -/
theorem comparesSetFlagsOnly : Obligations.ComparesSetFlagsOnly := by
  unfold Obligations.ComparesSetFlagsOnly
  intro h hh i s e r m
  have notRel := rowsOf_alu h (List.Sublist.mem hh (by decide)) _ (listed_of_encodes e)
  exact ⟨listed_of_encodes e, _, exec_compare hh e s, withCompare_eq _ _ s.p, difference_toNat _ _,
    sameRegs_operandRead i s, operandFrame_operandRead notRel s, rfl, sameMemory_operandRead i s, rfl⟩

/-! ## INC and DEC -/

/-- The 16-bit result of INC or DEC (R231, R232). -/
def steppedWord (h : Handler) (m : Byte) : Word := if h = .inc then m.setWidth 16 + 1#16 else m.setWidth 16 - 1#16

theorem steppedWord_toNat (h : Handler) (m : Byte) :
    (steppedWord h m).toNat = if h = .inc then m.toNat + 1 else (m.toNat + 65535) % 65536 := by
  unfold steppedWord
  split <;> bv_omega

theorem steppedWord_low_toNat (h : Handler) (m : Byte) : ((steppedWord h m).setWidth 8).toNat =
    if h = .inc then (m.toNat + 1) % 256 else (m.toNat + 255) % 256 := by
  rw [BitVec.toNat_setWidth, steppedWord_toNat]
  split <;> omega

/-- INC and DEC store their result (R231, R232). -/
theorem handlerFn_incDec {h : Handler} (hh : h ∈ [Handler.inc, .dec]) (o : Operand) (s : State) :
    handlerFn h o s = (false, storeResult (steppedWord h (fetchOperand o s).1) (fetchOperand o s).2) := by
  fin_cases hh <;> rfl

/-- The state after INC or DEC: no page cross is charged, because h = 0 (R231, R232). -/
theorem exec_incDec {h : Handler} (hh : h ∈ [Handler.inc, .dec]) {i : Instr} (e : encodes h i) (s : State) :
    exec i s = .next (storeResult (steppedWord h (operandByte i s)) (operandRead i s).2) := by
  obtain rfl := handler_of_encodes e
  exact exec_of_quiet (handlerFn_incDec hh i.operand (atHandler i s))

/-- A stored result leaves the bus as one write of its low byte at `addr_abs` does (R231, R232). -/
theorem busAfterWrite_storeResult (t : Word) (s : State) :
    busAfterWrite s.addrAbs (t.setWidth 8) s (storeResult t s) :=
  busWrite_bus_congr (s := s.setTemp t) _ _ rfl rfl rfl

theorem operandFrame_storeResult {i : Instr} {s u : State} (h : operandFrame i s u) (t : Word) :
    operandFrame i s (storeResult t u) := by
  simpa [operandFrame, sameOuter] using h

/-- Settles O31: the operand read and then one write of the result at the effective address. -/
theorem incDecWriteMemoryBack : Obligations.IncDecWriteMemoryBack := by
  unfold Obligations.IncDecWriteMemoryBack
  intro h hh i s e hwf m r
  have notRel := rowsOf_alu h (List.Sublist.mem hh (by decide)) _ (listed_of_encodes e)
  have low : ((steppedWord h (operandByte i s)).setWidth 8).toNat = r := steppedWord_low_toNat h _
  have value : BitVec.ofNat 8 r = (steppedWord h (operandByte i s)).setWidth 8 := by
    rw [← low, BitVec.ofNat_toNat, BitVec.setWidth_eq]
  have bus := busAfterWrite_storeResult (steppedWord h (operandByte i s)) (operandRead i s).2
  rw [operandRead_addrAbs, ← ea] at bus
  obtain ⟨byte, others⟩ := memory_of_busAfterWrite_operandRead bus hwf
  refine ⟨listed_of_encodes e, _, exec_incDec hh e s, ?byte, value.symm ▸ bus, others, ?flags, ?temp, ?regs,
    operandFrame_storeResult (operandFrame_operandRead notRel s) _, ?cycles⟩
  case byte => exact fun ram => (congrArg BitVec.toNat (byte ram)).trans low
  case flags => rw [storeResult_p, withZN_eq, low, operandRead_p]
  case temp => rw [storeResult_temp, steppedWord_toNat]
  case regs => simp [sameRegs]
  case cycles => rw [storeResult_cycles, operandRead_cycles]

/-! ## INX, INY, DEX and DEY -/

/-- The steps of X and Y are in mode IMP, at 2 cycles (R233 to R236). -/
theorem rowsOf_indexStep : ∀ h ∈ [Handler.inx, .iny, .dex, .dey], ∀ r ∈ rowsOf h,
    r.2 = .imp ∧ (table r.1).base = 2#8 := by decide

/-- The stepped index register (R233 to R236). -/
def steppedIndex (h : Handler) (s : State) : Byte :=
  if h = .inx then s.x + 1#8 else if h = .iny then s.y + 1#8 else if h = .dex then s.x - 1#8 else s.y - 1#8

theorem steppedIndex_toNat {h : Handler} (hh : h ∈ [Handler.inx, .iny, .dex, .dey]) (s : State) :
    let old := (if h = .inx ∨ h = .dex then s.x else s.y).toNat
    (steppedIndex h s).toNat = if h = .inx ∨ h = .iny then (old + 1) % 256 else (old + 255) % 256 := by
  fin_cases hh
  · exact byte_succ_toNat s.x
  · exact byte_succ_toNat s.y
  · exact byte_pred_toNat s.x
  · exact byte_pred_toNat s.y

/-- A step of an index register sets Z and N from it (R233 to R236). -/
theorem handlerFn_indexStep {h : Handler} (hh : h ∈ [Handler.inx, .iny, .dex, .dey]) (o : Operand) (s : State) :
    handlerFn h o s = (false, { s with
      x := if h = .inx ∨ h = .dex then steppedIndex h s else s.x
      y := if h = .inx ∨ h = .dex then s.y else steppedIndex h s
      p := withZN (steppedIndex h s) s.p }) := by
  fin_cases hh <;> rfl

/-- The state after a step of an index register (R233 to R236). -/
theorem exec_indexStep {h : Handler} (hh : h ∈ [Handler.inx, .iny, .dex, .dey]) {i : Instr} (e : encodes h i)
    (s : State) : exec i s = .next { s with
      x := if h = .inx ∨ h = .dex then steppedIndex h s else s.x
      y := if h = .inx ∨ h = .dex then s.y else steppedIndex h s
      p := withZN (steppedIndex h s) s.p
      fetched := s.a
      cycles := 2#8 } := by
  obtain ⟨imp, base⟩ := rowsOf_indexStep h hh _ (listed_of_encodes e)
  have steps := handlerFn_indexStep hh i.operand (atHandler i s)
  rw [← handler_of_encodes e] at steps
  rw [exec_of_quiet steps, handler_of_encodes e, atHandler_of_imp imp, Instr.entry, base]
  rfl

/-- Settles O32: the state after the step, field by field. -/
theorem indexRegistersStepByOne : Obligations.IndexRegistersStepByOne := by
  unfold Obligations.IndexRegistersStepByOne
  intro h hh i s e old r
  have stepped : (steppedIndex h s).toNat = r := steppedIndex_toNat hh s
  have frame : sameOuter s s := ⟨rfl, rfl, rfl, rfl⟩
  refine ⟨listed_of_encodes e, _, exec_indexStep hh e s, ?x, ?y, ?flags, rfl, rfl, rfl,
    ⟨rfl, rfl, rfl, rfl, frame⟩, rfl, fun _ => rfl, rfl⟩
  case x => rw [← stepped, apply_ite BitVec.toNat]
  case y => rw [← stepped, apply_ite BitVec.toNat]
  case flags => rw [withZN_eq, stepped]

end Sys2Proof.Machine
end

section
/-! PROOFS. NOP and the unassigned opcodes (48_nop_illegal.md, R250 to R252). -/

namespace Sys2Proof.Machine

open Sys2Proof.Claims

/-- The dispatch table gives NOP and the unassigned opcodes no operand and a handler of 48_nop_illegal.md (R83, R87). -/
theorem table_nopOrUnassigned {op : Byte} (h : op = 0xEA#8 ∨ op ∈ unassignedOpcodes) :
    (table op).handler ∈ [Handler.nop, .xxx] ∧ (table op).mode = .imp := by
  have rows : ∀ op ∈ 0xEA#8 :: unassignedOpcodes,
      (table op).handler ∈ [Handler.nop, .xxx] ∧ (table op).mode = .imp := by decide
  exact rows op (List.mem_cons.2 h)

/-- NOP and XXX leave the state as it is, whatever value h they return (R250 to R252). -/
theorem handlerFn_nop_xxx {h : Handler} (hh : h ∈ [Handler.nop, .xxx]) (o : Operand) (s : State) :
    (handlerFn h o s).2 = s := by
  fin_cases hh <;> rfl

/-- Mode IMP never crosses a page (R112). -/
theorem pageCrossed_of_imp {i : Instr} (hm : i.operand.mode = .imp) (s : State) : pageCrossed i s = false := by
  rw [pageCrossed, operand_eq_imp_of_mode hm]
  rfl

/-- Mode IMP is charged the base cost alone, whatever value h its handler returns (R112, R263). -/
theorem exec_of_imp {i : Instr} (hm : i.operand.mode = .imp) (s : State) :
    exec i s = .next (handlerFn i.handler i.operand (atHandler i s)).2 := by
  rw [exec_next, pageCrossed_of_imp hm, Bool.false_and, if_neg Bool.false_ne_true, BitVec.add_zero]
  rfl

/-- Settles O35: the handler does nothing after the resolver of mode IMP, and no page cross is charged. -/
theorem nopAndUnassignedOnlyPassTime : Obligations.NopAndUnassignedOnlyPassTime := by
  unfold Obligations.NopAndUnassignedOnlyPassTime
  intro i s opcode
  obtain ⟨handler, mode, -⟩ := rowAgrees i
  obtain ⟨quiet, imp⟩ := table_nopOrUnassigned opcode
  rw [handler] at quiet
  rw [mode] at imp
  refine ⟨operand_eq_imp_of_mode imp, ?_⟩
  rw [exec_of_imp imp, handlerFn_nop_xxx quiet, atHandler_of_imp imp]

end Sys2Proof.Machine
end

section
/-! PROOFS. The engine family (49_execution_engine.md): every step answers (R269), what an instruction costs (R263) and
which costs depend on the data (R270), what one step does (R262, R266), and how many ticks a charge takes (R264). -/

namespace Sys2Proof.Machine

open Sys2Proof.Claims

/-! ## Every step answers -/

theorem boundaryAction_total (irq : Bool) (s : State) : ∃ t, boundaryAction irq s = .next t := by
  unfold boundaryAction
  split
  · exact ⟨_, rfl⟩
  split
  · exact ⟨_, rfl⟩
  · exact exec_total _ _

theorem tick_of_boundary {s : State} (h : s.cycles = 0#8) (irq : Bool) :
    tick irq s = endTick (boundaryAction irq s) := by
  simp [tick, complete, h]

theorem tick_of_midInstruction {s : State} (h : s.cycles ≠ 0#8) (irq : Bool) :
    tick irq s = .next (s.setCycles (s.cycles - 1#8)) := by
  simp [tick, complete, h, endTick_next]

theorem tick_total (irq : Bool) (s : State) : ∃ t, tick irq s = .next t := by
  by_cases h : s.cycles = 0#8
  · obtain ⟨t, action⟩ := boundaryAction_total irq s
    exact ⟨_, by rw [tick_of_boundary h, action, endTick_next]⟩
  · exact ⟨_, tick_of_midInstruction h irq⟩

/-- Settles O45, call by call of the host. -/
theorem everyStepAnswersANextState : Obligations.EveryStepAnswersANextState := by
  unfold Obligations.EveryStepAnswersANextState
  intro s
  match calls : s.hostCalls with
  | [] => exact step_of_ticksNext (.inr ⟨calls, rfl, rfl⟩) ▸ tick_total _ _
  | .tick irq :: rest => exact step_of_ticksNext (.inl calls) ▸ tick_total _ _
  | .reset :: rest => exact ⟨_, step_of_reset calls⟩
  | .nmi :: rest => exact ⟨_, step_of_nmi calls⟩

/-! ## The charge of an instruction -/

/-- The value h of a handler (R263); NOP's depends on the opcode (R252). -/
theorem handlerFn_requests {h : Handler} (notNop : h ≠ .nop) (o : Operand) (s : State) :
    (handlerFn h o s).1 = decide (h ∈ requesting) := by
  cases h
  case nop => exact absurd rfl notNop
  all_goals rfl

/-- A page cross is charged to the nine requesting handlers alone: NOP's request finds none, in mode IMP (R252). -/
theorem pageCrossCharged_iff (i : Instr) (s : State) :
    (pageCrossed i s && (handlerFn i.handler i.operand (atHandler i s)).1) = true ↔
      pageCrossed i s ∧ i.handler ∈ requesting := by
  by_cases nop : i.handler = .nop
  · have imp : i.operand.mode = .imp := by simpa [nop, admits] using (admits_handler_mode i).1
    simp [pageCrossed_of_imp imp]
  · simp [handlerFn_requests nop]

/-- A handler adds the branch penalty, and nothing else, to the base cost (R185). -/
theorem handlerFn_cycles_eq (i : Instr) (s : State) :
    (handlerFn i.handler i.operand (atHandler i s)).2.cycles = i.entry.base + branchPenalty i s := by
  have taken : branchTaken i.handler (atHandler i s).p = branchTaken i.handler s.p := by rw [atHandler_p]
  simp only [branchPenalty]
  cases hc : branchTaken i.handler s.p with
  | none => rw [handlerFn_cycles (taken.trans hc), atHandler_cycles, BitVec.add_zero]
  | some c =>
    rw [handlerFn_of_branchTaken (taken.trans hc)]
    cases c with
    | false => rw [branch_false, atHandler_cycles, BitVec.add_zero]
    | true => rw [branch_true_cycles, atHandler_cycles]

/-- Settles O46: the handler's own cycles, then the page cross. -/
theorem everyInstructionCompletesAndChargesItsCost : Obligations.EveryInstructionCompletesAndChargesItsCost := by
  unfold Obligations.EveryInstructionCompletesAndChargesItsCost
  intro i s
  refine ⟨_, exec_next i s, ?_⟩
  rw [State.setCycles_cycles, handlerFn_cycles_eq, add_right_comm]
  simp only [pageCrossCharged_iff]

/-! ## Which charges depend on the data -/

/-- The opcodes of R270's list are those of the requesting handlers in the modes that can cross a page. -/
theorem opcode_mem_pageCrossOpcodes_iff (i : Instr) : i.opcode ∈ pageCrossOpcodes ↔
    i.handler ∈ requesting ∧ i.operand.mode ∈ [Mode.abx, .aby, .izy] :=
  of_decide_eq_true (by cases i <;> rfl)

theorem opcode_mem_branchOpcodes_iff (i : Instr) : i.opcode ∈ branchOpcodes ↔ i.operand.mode = .rel :=
  of_decide_eq_true (by cases i <;> rfl)

/-- Only a branch is charged a penalty (R185). -/
theorem branchPenalty_of_not_rel {i : Instr} (h : i.operand.mode ≠ .rel) (s : State) : branchPenalty i s = 0#8 := by
  simp only [branchPenalty]
  cases hc : branchTaken i.handler s.p with
  | none => rfl
  | some c => exact absurd (mode_of_branchTaken hc) h

theorem branchPenalty_cases (i : Instr) (s : State) :
    branchPenalty i s = 0#8 ∨ branchPenalty i s = 1#8 ∨ branchPenalty i s = 2#8 := by
  simp only [branchPenalty]
  split
  · split <;> simp
  · exact .inl rfl

/-- The charge in each of R270's three classes. -/
theorem charge_by_class {i : Instr} {s t : State} (h : exec i s = .next t) :
    (i.opcode ∈ pageCrossOpcodes → t.cycles = if pageCrossed i s then i.entry.base + 1#8 else i.entry.base) ∧
    (i.opcode ∈ branchOpcodes → t.cycles = 2#8 + branchPenalty i s) ∧
    (i.opcode ∉ pageCrossOpcodes → i.opcode ∉ branchOpcodes → t.cycles = i.entry.base) := by
  obtain ⟨u, run, cost⟩ := everyInstructionCompletesAndChargesItsCost i s
  obtain rfl : u = t := Host.Outcome.next.inj (run.symm.trans h)
  rw [cost]
  rw [opcode_mem_pageCrossOpcodes_iff, opcode_mem_branchOpcodes_iff]
  have crossMode (hp : pageCrossed i s = true) : i.operand.mode ∈ [Mode.abx, .aby, .izy] := by
    simpa using pageCrossed_mode hp
  refine ⟨?cross, ?branch, ?fixed⟩
  case cross =>
    rintro ⟨req, indexedMode⟩
    have notRel : i.operand.mode ≠ .rel := fun e => by simp [e] at indexedMode
    rw [branchPenalty_of_not_rel notRel]
    cases pageCrossed i s <;> simp [req]
  case branch =>
    intro rel
    obtain ⟨-, -, base, -⟩ := entry_base_bounds i
    have notIndexed : i.operand.mode ∉ [Mode.abx, .aby, .izy] := by simp [rel]
    rw [if_neg (fun c => notIndexed (crossMode c.1)), base rel, BitVec.add_zero]
  case fixed =>
    intro notCross notRel
    rw [branchPenalty_of_not_rel notRel, if_neg (fun c => notCross ⟨c.2, crossMode c.1⟩), BitVec.add_zero,
      BitVec.add_zero]

/-- A state with an index of 0 or 1 and, at 0xFF, a page-0 pointer to 0x00FF. -/
def indexState (index : Byte) : State :=
  { State.reset with x := index, y := index, mem := [(0xFF, 0xFF#8)] }

/-- With the operand 0x00FF, or the pointer to it, an index of 1 crosses the page and one of 0 does not. -/
theorem pageCrossed_indexState : ∀ op ∈ pageCrossOpcodes,
    pageCrossed (decodeParts op 0xFF#8 0x00#8) (indexState 0#8) = false ∧
      pageCrossed (decodeParts op 0xFF#8 0x00#8) (indexState 1#8) = true := by decide

/-- A state whose flags are all clear or all set. -/
def flagState (v : Bool) : State := { State.reset with p := ⟨v, v, v, v, v, v, v⟩ }

/-- Each branch is taken with the flags all clear or all set, not both. -/
theorem branchPenalty_flagState : ∀ op ∈ branchOpcodes,
    branchPenalty (decodeParts op 0#8 0#8) (flagState false) ≠
      branchPenalty (decodeParts op 0#8 0#8) (flagState true) := by decide

/-- Every opcode of R270's list has a run that crosses a page and one that does not. -/
theorem exists_charges_ne_of_pageCross {op : Byte} (h : op ∈ pageCrossOpcodes) :
    ∃ (i : Instr) (s t s' t' : State), i.opcode = op ∧ exec i s = .next s' ∧ exec i t = .next t' ∧
      s'.cycles ≠ t'.cycles := by
  obtain ⟨opcode, -⟩ := decodeParts_spec op 0xFF#8 0x00#8
  obtain ⟨inPage, crossing⟩ := pageCrossed_indexState op h
  generalize decodeParts op 0xFF#8 0x00#8 = i at opcode inPage crossing
  obtain ⟨s', run⟩ := exec_total i (indexState 0#8)
  obtain ⟨t', run'⟩ := exec_total i (indexState 1#8)
  refine ⟨i, _, _, s', t', opcode, run, run', ?_⟩
  obtain ⟨low, -⟩ := charge_by_class run
  obtain ⟨high, -⟩ := charge_by_class run'
  rw [low (opcode ▸ h), high (opcode ▸ h), inPage, crossing]
  simp

/-- Every branch has a run in which it is taken and one in which it is not. -/
theorem exists_charges_ne_of_branch {op : Byte} (h : op ∈ branchOpcodes) :
    ∃ (i : Instr) (s t s' t' : State), i.opcode = op ∧ exec i s = .next s' ∧ exec i t = .next t' ∧
      s'.cycles ≠ t'.cycles := by
  obtain ⟨opcode, -⟩ := decodeParts_spec op 0#8 0#8
  have differ := branchPenalty_flagState op h
  generalize decodeParts op 0#8 0#8 = i at opcode differ
  obtain ⟨s', run⟩ := exec_total i (flagState false)
  obtain ⟨t', run'⟩ := exec_total i (flagState true)
  refine ⟨i, _, _, s', t', opcode, run, run', ?_⟩
  obtain ⟨-, cost, -⟩ := charge_by_class run
  obtain ⟨-, cost', -⟩ := charge_by_class run'
  rw [cost (opcode ▸ h), cost' (opcode ▸ h)]
  exact fun e => differ ((BitVec.add_right_inj _).1 e)

/-- Settles O47: the charge by class, and two runs that differ for each opcode of the two lists. -/
theorem exactlyTheseOpcodesHaveAVariableCharge : Obligations.ExactlyTheseOpcodesHaveAVariableCharge := by
  unfold Obligations.ExactlyTheseOpcodesHaveAVariableCharge
  constructor
  · intro i s
    obtain ⟨t, run⟩ := exec_total i s
    obtain ⟨cross, branch, fixed⟩ := charge_by_class run
    refine ⟨t, run, cross, fun hb => ?_, fixed⟩
    rw [branch hb]
    rcases branchPenalty_cases i s with e | e | e <;> simp [e]
  · intro op
    constructor
    · rintro ⟨i, j, s, t, s', t', rfl, same, run, run', differ⟩
      by_contra neither
      obtain ⟨notCross, notBranch⟩ := not_or.1 neither
      obtain ⟨-, -, fixed⟩ := charge_by_class run
      obtain ⟨-, -, fixed'⟩ := charge_by_class run'
      rw [same] at fixed'
      refine differ ((fixed notCross notBranch).trans ((fixed' notCross notBranch).trans ?_).symm)
      rw [Instr.entry, same, Instr.entry]
    · intro h
      obtain ⟨i, s, t, s', t', opcode, run, run', differ⟩ :=
        h.elim exists_charges_ne_of_pageCross exists_charges_ne_of_branch
      exact ⟨i, i, s, t, s', t', opcode, opcode, run, run', differ⟩

/-! ## One step -/

/-- Settles O43: the fetch of plain RAM, then the instruction, then the decrement. -/
theorem stepRunsTheDecodedInstruction : Obligations.StepRunsTheDecodedInstruction := by
  unfold Obligations.StepRunsTheDecodedInstruction
  intro s irq calls i rest boundary noNmi next masked ram0 ram1 ram2 bytes
  let u : State := { s with hostCalls := calls }
  obtain ⟨fetched, instr⟩ := fetch_ram (s := u) ram0 ram1 ram2
  obtain ⟨t, run⟩ := exec_total i (fetch u).2
  have ticked : tick irq u = endTick (exec (fetch u).1 (fetch u).2) := tick_runs boundary noNmi masked
  rw [instr i rest bytes, run] at ticked
  rw [fetched] at run
  exact ⟨t, run, (step_of_ticksNext next).trans ticked⟩

theorem ofNat_toNat_sub_one {c : Byte} (h : c ≠ 0#8) : BitVec.ofNat 8 (c.toNat - 1) = c - 1#8 := by
  have positive : c.toNat ≠ 0 := fun e => h (BitVec.eq_of_toNat_eq e)
  apply BitVec.eq_of_toNat_eq
  rw [byte_pred_toNat, BitVec.toNat_ofNat]
  omega

/-- Settles O44: the tick's decrement. -/
theorem midInstructionTickOnlyCountsDown : Obligations.MidInstructionTickOnlyCountsDown := by
  unfold Obligations.MidInstructionTickOnlyCountsDown
  intro s irq calls owed next
  rw [step_of_ticksNext next, ofNat_toNat_sub_one owed]
  exact tick_of_midInstruction (s := { s with hostCalls := calls }) owed irq

/-! ## A charge of n takes n ticks -/

theorem run_succ {s t : State} (first : step s = .next t) (k : Nat) : core.run (k + 1) s = core.run k t := by
  have head : core.step s = .next t := first
  simp only [Host.Core.run, head]

/-- A run goes on by one step from where it is. -/
theorem run_succ_of_run {k : Nat} {s t u : State} (run : core.run k s = .next t) (last : step t = .next u) :
    core.run (k + 1) s = .next u := by
  induction k generalizing s with
  | zero =>
    obtain rfl : s = t := Host.Outcome.next.inj run
    exact run_succ last 0
  | succ k ih =>
    obtain ⟨v, first⟩ := everyStepAnswersANextState s
    rw [run_succ first] at run ⊢
    exact ih run

theorem two_le_cycles_of_exec {i : Instr} {s t : State} (h : exec i s = .next t) : 2 ≤ t.cycles.toNat := by
  obtain ⟨u, run, cost⟩ := everyInstructionCompletesAndChargesItsCost i s
  obtain rfl : u = t := Host.Outcome.next.inj (run.symm.trans h)
  obtain ⟨two, eight, -⟩ := entry_base_bounds i
  have penalty : branchPenalty i s ≤ 2#8 := by rcases branchPenalty_cases i s with e | e | e <;> simp [e]
  rw [cost]
  split <;> bv_omega

/-- Every boundary action charges at least 2 (R264): INT_CYCLES, or no less than a base cost. -/
theorem two_le_boundaryAction_cycles {irq : Bool} {s t : State} (h : boundaryAction irq s = .next t) :
    2 ≤ t.cycles.toNat := by
  unfold boundaryAction at h
  split at h
  · rw [← Host.Outcome.next.inj h, (interrupt_frame _ _).1]
    decide
  split at h
  · rw [← Host.Outcome.next.inj h, (interrupt_frame _ _).1]
    decide
  · exact two_le_cycles_of_exec h

theorem tick_of_boundaryAction {irq : Bool} {s t : State} (boundary : s.cycles = 0#8)
    (action : boundaryAction irq s = .next t) : tick irq s = .next (t.setCycles (t.cycles - 1#8)) := by
  rw [tick_of_boundary boundary, action, endTick_next]

/-- What a boundary action that left `t` has become `k` ticks after its start. -/
def afterTicks (t : State) (calls : Nat → List HostCall) (k : Nat) : State :=
  { t with cycles := BitVec.ofNat 8 (t.cycles.toNat - k), hostCalls := calls k }

theorem afterTicks_cycles_ne_zero {t : State} {k : Nat} (lt : k < t.cycles.toNat) (calls : Nat → List HostCall) :
    (afterTicks t calls k).cycles ≠ 0#8 := by
  show BitVec.ofNat 8 (t.cycles.toNat - k) ≠ 0#8
  bv_omega

/-- A Mid-instruction tick counts one down (R266). -/
theorem step_afterTicks {t : State} {calls : Nat → List HostCall} {k : Nat} {irq : Bool} (lt : k < t.cycles.toNat)
    (next : ticksNext irq (calls (k + 1)) (afterTicks t calls k)) :
    step (afterTicks t calls k) = .next (afterTicks t calls (k + 1)) := by
  have counted : (afterTicks t calls k).cycles.toNat - 1 = t.cycles.toNat - (k + 1) := by
    simp only [afterTicks]
    bv_omega
  rw [midInstructionTickOnlyCountsDown _ irq _ (afterTicks_cycles_ne_zero lt calls) next, counted]
  rfl

/-- The boundary tick leaves an action one tick after its start (R264), and takes the host's call alone. -/
theorem step_of_boundaryAction {irq : Bool} {s t : State} {calls : Nat → List HostCall} (boundary : s.cycles = 0#8)
    (next : ticksNext irq (calls 1) s) (action : boundaryAction irq { s with hostCalls := calls 1 } = .next t) :
    step s = .next (afterTicks t calls 1) := by
  have ticked := tick_of_boundaryAction (s := { s with hostCalls := calls 1 }) boundary action
  have owed : t.cycles ≠ 0#8 := fun e => by
    have two := two_le_boundaryAction_cycles action
    simp [e] at two
  obtain ⟨-, kept⟩ := tick_keeps ticked
  rw [step_of_ticksNext next, ticked, afterTicks, ofNat_toNat_sub_one owed]
  exact congrArg (fun c => Host.Outcome.next { t with cycles := t.cycles - 1#8, hostCalls := c }) kept

/-- An action is done after as many ticks as its charge: the boundary tick, then one that counts down for each further
call the host lists (R264, R266). -/
theorem takesItsTicks_of_ticksNext {irq : Bool} {s t : State} {calls : Nat → List HostCall}
    (boundary : s.cycles = 0#8) (first : ticksNext irq (calls 1) s)
    (action : boundaryAction irq { s with hostCalls := calls 1 } = .next t)
    (further : ∀ k, 0 < k → k < t.cycles.toNat → ∃ irq, ticksNext irq (calls (k + 1)) (afterTicks t calls k)) :
    takesItsTicks s t calls := by
  have left (k : Nat) (pos : 0 < k) (le : k ≤ t.cycles.toNat) : core.run k s = .next (afterTicks t calls k) := by
    induction k, pos using Nat.le_induction with
    | base => exact run_succ_of_run (k := 0) rfl (step_of_boundaryAction boundary first action)
    | succ k pos ih =>
      obtain ⟨level, next⟩ := further k pos le
      exact run_succ_of_run (ih (Nat.le_of_lt le)) (step_afterTicks le next)
  refine ⟨?done, fun k pos lt => ⟨_, left k pos lt.le, rfl, ?notYet⟩⟩
  case done =>
    have last := left t.cycles.toNat (Nat.lt_of_lt_of_le Nat.two_pos (two_le_boundaryAction_cycles action)) le_rfl
    rwa [afterTicks, Nat.sub_self] at last
  case notYet => exact beq_false_of_ne (afterTicks_cycles_ne_zero lt calls)

/-- Settles O48: the host ticks at every step, by its listed levels or because it has no call listed. -/
theorem chargeOfNTakesExactlyNTicks : Obligations.ChargeOfNTakesExactlyNTicks := by
  unfold Obligations.ChargeOfNTakesExactlyNTicks
  constructor
  · intro s t irq levels calls boundary listed action
    refine ⟨two_le_boundaryAction_cycles action, fun enough => ?_⟩
    refine takesItsTicks_of_ticksNext boundary (.inl listed) action fun k pos lt => ?_
    have more : k - 1 < levels.length := by omega
    refine ⟨levels[k - 1], .inl ?_⟩
    show (levels.drop (k - 1)).map HostCall.tick ++ calls = _
    rw [List.drop_eq_getElem_cons more]
    obtain ⟨j, rfl⟩ : ∃ j, k = j + 1 := ⟨k - 1, by omega⟩
    rfl
  · intro s t boundary noCalls action
    have same : s.setHostCalls [] = s := by rw [← noCalls]; rfl
    have first : ticksNext false [] s := .inr ⟨noCalls, rfl, rfl⟩
    refine ⟨two_le_boundaryAction_cycles action, takesItsTicks_of_ticksNext boundary first
      ((congrArg (boundaryAction false) same).trans action) fun _ _ _ => ⟨false, .inr ⟨rfl, rfl, rfl⟩⟩⟩

/-! ## An instruction placed at PC -/

/-- The bits of an instruction as a number, its first byte the least significant. -/
def littleEndian (bytes : List Byte) : Nat :=
  (bytes.getD 0 0#8).toNat + 256 * (bytes.getD 1 0#8).toNat + 65536 * (bytes.getD 2 0#8).toNat

theorem littleEndian_lt (bytes : List Byte) : littleEndian bytes < 2 ^ (8 * bytes.length) := by
  match bytes with
  | [] => decide
  | [a] => simp [littleEndian]; omega
  | [a, b] => simp [littleEndian]; omega
  | a :: b :: c :: rest =>
    have three : 2 ^ (8 * 3) ≤ 2 ^ (8 * (a :: b :: c :: rest).length) :=
      Nat.pow_le_pow_right Nat.two_pos (by simp; omega)
    have low : littleEndian (a :: b :: c :: rest) = a.toNat + 256 * b.toNat + 65536 * c.toNat := rfl
    omega

/-- The decoder reads from those bits the bytes they were written from. -/
theorem tableBytes_littleEndian (bytes : List Byte) :
    [0, 1, 2].map (tableByte (8 * bytes.length) (littleEndian bytes)) = [0, 1, 2].map (bytes.getD · 0#8) := by
  simp only [tableByte, Nat.mod_eq_of_lt (littleEndian_lt bytes), Nat.shiftRight_eq_div_pow, List.map_cons,
    List.map_nil, List.cons.injEq, and_true]
  refine ⟨?_, ?_, ?_⟩ <;>
  · apply BitVec.eq_of_toNat_eq
    rw [BitVec.toNat_ofNat, littleEndian]
    omega

/-- Three bytes hold every instruction. -/
theorem exists_encode_append (i : Instr) : ∃ rest, encode i ++ rest = [0, 1, 2].map ((encode i).getD · 0#8) := by
  simp only [encode]
  cases i.operand with
  | imp => exact ⟨[0#8, 0#8], rfl⟩
  | abs w | abx w | aby w | ind w => exact ⟨[], rfl⟩
  | _ => exact ⟨[0#8], rfl⟩

@[simp] theorem placeByte_pc (a : Word) (v : Byte) (s : State) : (placeByte a v s).pc = s.pc := by
  simp only [placeByte]
  split <;> rfl

/-- Placing a byte makes its address plain RAM and leaves every other as it is. -/
theorem placeByte_target (a : Word) (v : Byte) (s : State) (b : Word) :
    (placeByte a v s).target b = if b = a then .ram else s.target b := by
  have window : a ≤ b ∧ b ≤ a ↔ b = a := by bv_omega
  simp only [placeByte]
  split
  next ram => 
    by_cases h : b = a
    · rw [if_pos h, h]
      exact ram
    · rw [if_neg h]
      rfl
  next => simp [State.target, State.setMem, State.setBusMap, targetIn, window]

theorem placeByte_mem (a : Word) (v : Byte) (s : State) : (placeByte a v s).mem = memWrite s.mem a.toNat v := by
  simp only [placeByte]
  split <;> rfl

theorem placeByte_wf {s : State} (wf : s.mem.wf = true) (a : Word) (v : Byte) : (placeByte a v s).mem.wf = true := by
  rw [placeByte_mem]
  exact memWf_memWrite wf a.isLt

theorem ramByte_placeByte {s : State} (wf : s.mem.wf = true) (a : Word) (v : Byte) (b : Word) :
    ramByte (placeByte a v s) b = if b = a then v else ramByte s b := by
  rw [ramByte, placeByte_mem]
  split
  next h => rw [h, memRead_memWrite_same wf]
  next h => exact memRead_memWrite_other (word_toNat_ne h)

/-- Three bytes placed one after the other from PC on. -/
def placeAtPc (b0 b1 b2 : Byte) (s : State) : State :=
  placeByte (s.pc + 2#16) b2 (placeByte (s.pc + 1#16) b1 (placeByte s.pc b0 s))

theorem withFetchWord_eq (s : State) (nbits w : Nat) : s.withFetchWord nbits w =
    (((placeAtPc (tableByte nbits w 0) (tableByte nbits w 1) (tableByte nbits w 2) s).setCycles 0#8).setNmiPending
      false).setHostCalls [] := by
  simp only [State.withFetchWord, placeInstruction, placeByte_pc, placeAtPc]

theorem placeAtPc_pc (b0 b1 b2 : Byte) (s : State) : (placeAtPc b0 b1 b2 s).pc = s.pc := by
  simp only [placeAtPc, placeByte_pc]

theorem placeAtPc_target (b0 b1 b2 : Byte) (s : State) (a : Word) : (placeAtPc b0 b1 b2 s).target a =
    if a = s.pc + 2#16 then .ram else if a = s.pc + 1#16 then .ram else if a = s.pc then .ram else s.target a := by
  simp only [placeAtPc, placeByte_target]

/-- The three addresses differ, so each holds its byte. -/
theorem ramByte_placeAtPc {s : State} (wf : s.mem.wf = true) (b0 b1 b2 : Byte) :
    ramByte (placeAtPc b0 b1 b2 s) s.pc = b0 ∧ ramByte (placeAtPc b0 b1 b2 s) (s.pc + 1#16) = b1 ∧
      ramByte (placeAtPc b0 b1 b2 s) (s.pc + 2#16) = b2 := by
  have wf0 := placeByte_wf wf s.pc b0
  have wf1 := placeByte_wf wf0 (s.pc + 1#16) b1
  have apart1 : s.pc ≠ s.pc + 1#16 := by bv_omega
  have apart2 : s.pc ≠ s.pc + 2#16 := by bv_omega
  have apart12 : s.pc + 1#16 ≠ s.pc + 2#16 := by bv_omega
  simp only [placeAtPc, ramByte_placeByte wf1, ramByte_placeByte wf0, ramByte_placeByte wf, apart1, apart2, apart12,
    if_true, if_false, and_self]

section withFetchWord
variable (s : State) (nbits w : Nat)

theorem withFetchWord_pc : (s.withFetchWord nbits w).pc = s.pc := by
  simp only [withFetchWord_eq, State.setHostCalls_pc, State.setNmiPending_pc, State.setCycles_pc, placeAtPc_pc]

/-- Where the next step fetches is plain RAM. -/
theorem withFetchWord_target {a : Word} (h : a ∈ [s.pc, s.pc + 1#16, s.pc + 2#16]) :
    (s.withFetchWord nbits w).target a = .ram := by
  simp only [withFetchWord_eq, State.setHostCalls_target, State.setNmiPending_target, State.setCycles_target,
    placeAtPc_target]
  fin_cases h <;> simp

/-- The bytes there are those of the word. -/
theorem ramBytes_withFetchWord (wf : s.mem.wf = true) :
    [s.pc, s.pc + 1#16, s.pc + 2#16].map (ramByte (s.withFetchWord nbits w)) = [0, 1, 2].map (tableByte nbits w) := by
  obtain ⟨byte0, byte1, byte2⟩ :=
    ramByte_placeAtPc wf (tableByte nbits w 0) (tableByte nbits w 1) (tableByte nbits w 2)
  have mem : (s.withFetchWord nbits w).mem =
      (placeAtPc (tableByte nbits w 0) (tableByte nbits w 1) (tableByte nbits w 2) s).mem := by
    simp only [withFetchWord_eq, State.setHostCalls_mem, State.setNmiPending_mem, State.setCycles_mem]
  simp only [List.map_cons, List.map_nil, ramByte, mem]
  simp only [ramByte] at byte0 byte1 byte2
  rw [byte0, byte1, byte2]

end withFetchWord

/-- Settles O60: the placed bytes decode to the instruction, and the next step fetches them from plain RAM. -/
theorem placedInstructionRunsNext : Obligations.PlacedInstructionRunsNext := by
  unfold Obligations.PlacedInstructionRunsNext
  intro i s wf bytes w u
  obtain ⟨rest, padded⟩ := exists_encode_append i
  have read : [0, 1, 2].map (tableByte (8 * bytes.length) w) = encode i ++ rest :=
    (tableBytes_littleEndian bytes).trans padded.symm
  have decoded := decodeOfEncodeIsTheInstruction i rest
  have inMemory := (ramBytes_withFetchWord s (8 * bytes.length) w wf).trans read
  have pc : u.pc = s.pc := withFetchWord_pc s _ w
  have ram {a : Word} (h : a ∈ [u.pc, u.pc + 1#16, u.pc + 2#16]) : u.target a = .ram :=
    withFetchWord_target s _ w (pc ▸ h)
  rw [← pc] at inMemory
  have decodedWord := (congrArg decode read).trans decoded
  refine ⟨by rw [decodeTableWord]; exact decodedWord ▸ rfl, ?_⟩
  have opcode : ramByte u u.pc = i.opcode := List.head_eq_of_cons_eq inMemory
  have cycles : u.cycles = 0#8 := rfl
  have nmi : u.nmiPending = false := rfl
  have calls : u.hostCalls = [] := rfl
  have tickNext : ticksNext false [] u := .inr ⟨calls, rfl, rfl⟩
  obtain ⟨t, run, stepped⟩ := stepRunsTheDecodedInstruction u false [] i rest cycles nmi tickNext
    (fun asserted => nomatch asserted) (ram (by simp)) (ram (by simp)) (ram (by simp))
    ((congrArg decode inMemory).trans decoded)
  rw [opcode, ← calls] at run
  exact ⟨t, run, stepped⟩

end Sys2Proof.Machine
end

section
/-! PROOFS. The exceptions family (60_exceptions.md): the entry of IRQ and NMI (R306), the return from it (R307), which
action a boundary takes (R303), and the NMI latch (R304). -/

namespace Sys2Proof.Machine

open Sys2Proof.Claims

/-! ## The entry and the return -/

/-- The byte IRQ and NMI push (R34): bit 4 forced to 0. -/
theorem pushedStatus_false (p : Status) : pushedStatus false p = pbyte p &&& 0xEF#8 := rfl

/-- The entry of IRQ and NMI leaves the memory as the shared interrupt entry does: only the charge comes after. -/
theorem interrupt_mem (vector : Word) (s : State) : (interrupt vector s).mem = (enterInterrupt false vector s).mem := by
  rw [interrupt, State.setCycles_mem]

theorem ramByte_interrupt_eq (vector : Word) (s : State) (a : Word) :
    ramByte (interrupt vector s) a = ramByte (enterInterrupt false vector s) a := by
  rw [ramByte, interrupt_mem, ramByte]

/-- IRQ and NMI change the three stack bytes from SP down, and push PC high, PC low and the status (R306). -/
theorem ramByte_interrupt {s : State} (ram : allRam s) (wf : s.mem.wf = true) (vector : Word) :
    ramByte (interrupt vector s) (stackByte s.sp) = hiByte s.pc ∧
      ramByte (interrupt vector s) (stackByte (s.sp - 1#8)) = loByte s.pc ∧
      ramByte (interrupt vector s) (stackByte (s.sp - 2#8)) = pbyte s.p &&& 0xEF#8 ∧
      sameMemoryBut [stackByte s.sp, stackByte (s.sp - 1#8), stackByte (s.sp - 2#8)] s (interrupt vector s) := by
  obtain ⟨high, low, status⟩ := ramByte_enterInterrupt_pushed ram false vector wf
  simp only [sameMemoryBut, ramByte_interrupt_eq, ← pushedStatus_false]
  exact ⟨high, low, status, sameMemoryBut_enterInterrupt false vector s⟩

/-- Settles O51: the shared interrupt entry with bit 4 clear, then the charge. -/
theorem interruptEntryPushesPcAndStatus : Obligations.InterruptEntryPushesPcAndStatus := by
  unfold Obligations.InterruptEntryPushesPcAndStatus
  intro vector s ram wf
  obtain ⟨high, low, status, others⟩ := ramByte_interrupt ram wf vector
  refine ⟨high, low, status, others, ?_⟩
  simp only [interrupt_mem, ← joinBytes_ramByte, ramByte_interrupt_eq, ← stackAddr_eq_stackByte,
    ← highByte_eq_hiByte, ← lowByte_eq_loByte, ← pushedStatus_false]
  exact congrArg (State.setCycles Config.intCycles) (enterInterrupt_ram false vector ram)

/-- Every flag but B survives the entry's push and RTI's pull (R183, R306, R307). -/
theorem statusOf_interruptByte (p : Status) : statusOf (pbyte p &&& 0xEF#8) = { p with b := false } :=
  statusOf_pushedStatus false p

/-- Settles O52: RTI pulls the three bytes the entry pushed. -/
theorem rtiAfterAnEntryResumes : Obligations.RtiAfterAnEntryResumes := by
  unfold Obligations.RtiAfterAnEntryResumes
  intro vector s u ram wf ramU e sp statusU lowU highU
  obtain ⟨high, low, status, -⟩ := ramByte_interrupt ram wf vector
  obtain ⟨-, back⟩ := rtiRestoresFlagsAndPc u ramU
  have entrySp : e.sp = s.sp - 1#8 - 1#8 - 1#8 := enterInterrupt_sp false vector s
  have one : e.sp + 1#8 = s.sp - 2#8 := by rw [entrySp]; bv_omega
  have two : e.sp + 2#8 = s.sp - 1#8 := by rw [entrySp]; bv_omega
  have three : e.sp + 3#8 = s.sp := by rw [entrySp]; bv_omega
  rw [one, status] at statusU
  rw [two, low] at lowU
  rw [three, high] at highU
  rw [sp, one, two, three] at back
  refine ⟨_, back, ?pc, rfl, ?flags, rfl, rfl, rfl⟩
  case pc => rw [ramWord, lowU, highU, word_of_hiByte_loByte]
  case flags =>
    rw [statusU]
    exact congrArg (fun q : Status => { q with b := false }) (statusOf_interruptByte s.p)

/-! ## Which action a boundary takes -/

/-- An interrupt entry leaves INT_CYCLES - 1 = 6 after its tick (R264, R306). -/
theorem endTick_interrupt (vector : Word) (s : State) :
    endTick (.next (interrupt vector s)) = .next { interrupt vector s with cycles := 6#8 } := by
  rw [endTick_next, (interrupt_frame vector s).1]
  rfl

/-- A pending NMI is taken first, and its latch cleared (R303). -/
theorem tick_of_nmi {s : State} (boundary : s.cycles = 0#8) (nmi : s.nmiPending = true) (irq : Bool) :
    tick irq s = .next { interrupt 0xFFFA#16 { s with nmiPending := false } with cycles := 6#8 } := by
  rw [tick_of_boundary boundary, boundaryAction, if_pos nmi]
  exact endTick_interrupt _ _

/-- An asserted and unmasked IRQ is taken when no NMI is pending (R303). -/
theorem tick_of_irq {s : State} (boundary : s.cycles = 0#8) (noNmi : s.nmiPending = false) (unmasked : s.p.i = false) :
    tick true s = .next { interrupt 0xFFFE#16 s with cycles := 6#8 } := by
  have action : boundaryAction true s = .next (interrupt Config.irqVector s) := by
    simp [boundaryAction, noNmi, unmasked]
  rw [tick_of_boundary boundary, action]
  exact endTick_interrupt _ _

/-- Settles O50, case by case of the boundary action. -/
theorem nmiBeforeIrqBeforeTheInstruction : Obligations.NmiBeforeIrqBeforeTheInstruction := by
  unfold Obligations.NmiBeforeIrqBeforeTheInstruction
  intro s irq calls boundary next u
  rw [step_of_ticksNext next]
  refine ⟨fun nmi => tick_of_nmi (s := u) boundary nmi irq, fun noNmi asserted unmasked => ?irq,
    fun noNmi noIrq => ?instruction⟩
  case irq =>
    subst asserted
    exact tick_of_irq (s := u) boundary noNmi unmasked
  case instruction =>
    have masked : irq = true → u.p.i = true := fun asserted => noIrq.resolve_left (by simp [asserted])
    obtain ⟨t, run⟩ := exec_total (fetch u).1 (fetch u).2
    exact ⟨t, run, (tick_runs (s := u) boundary noNmi masked).trans (congrArg endTick run)⟩

/-- Settles O53: the host's call is the latch. -/
theorem nmiCallOnlySetsTheLatch : Obligations.NmiCallOnlySetsTheLatch := by
  unfold Obligations.NmiCallOnlySetsTheLatch
  exact fun s calls => step_of_nmi

end Sys2Proof.Machine
end

section
/-! PROOFS. The reset and hazards family (70_reset_and_hazards.md): reset (R341, R342), the base costs (R253, R349) and
the run to STOP (R351). -/

namespace Sys2Proof.Machine

open Sys2Proof.Claims

/-! ## Reset -/

/-- A read does not look at the host's calls. -/
theorem busRead_setHostCalls (a : Word) (calls : List HostCall) (s : State) :
    busRead a (s.setHostCalls calls) = ((busRead a s).1, (busRead a s).2.setHostCalls calls) := by
  cases h : s.target a <;> simp only [busRead, busReadOn, State.setHostCalls_target, h] <;> rfl

theorem read16_setHostCalls (a : Word) (calls : List HostCall) (s : State) :
    read16 a (s.setHostCalls calls) = ((read16 a s).1, (read16 a s).2.setHostCalls calls) := by
  simp only [read16, busRead_setHostCalls]

/-- Settles O54: the core's elements are written out, and the bus is read at the vector alone. -/
theorem resetLoadsEveryElement : Obligations.ResetLoadsEveryElement := by
  unfold Obligations.ResetLoadsEveryElement
  intro s calls h
  let u : State := s.setHostCalls calls
  have vector : read16 Config.resetVector u = _ := read16_setHostCalls Config.resetVector calls s
  have pc : (read16 Config.resetVector u).1 = (read16 Config.resetVector s).1 := by rw [vector]
  have log : (read16 Config.resetVector u).2.busLog = (read16 Config.resetVector s).2.busLog := by rw [vector]; rfl
  have status : pbyte Status.reset = 0x24#8 := rfl
  refine ⟨_, step_of_reset h, rfl, rfl, rfl, rfl, status, rfl, rfl, rfl, rfl, rfl, rfl, rfl, rfl, ?mem, ?map,
    hostReset_hostCalls _, pc, log, fun ram => ?ram, fun dev => ?dev⟩
  case mem => exact read16_mem _ _
  case map => exact read16_busMap _ _
  case ram =>
    have word := read16_ram ram Config.resetVector
    rw [joinBytes_ramByte] at word
    exact ⟨pc.trans (congrArg Prod.fst word), log.trans (congrArg (fun r : Word × State => r.2.busLog) word)⟩
  case dev => exact log.trans (read16_busLog_device dev Config.resetVector)

/-! ## The base costs -/

/-- Every instruction is one that the rule of its handler lists, or has an unassigned opcode (R86, R87). -/
theorem listed_or_unassigned (i : Instr) : listed i.handler i ∨ i.opcode ∈ unassignedOpcodes := by
  unfold listed
  exact of_decide_eq_true (by cases i <;> rfl)

/-- The base cost of a handler in a mode it has: the table of R349, by class and mode. -/
def timingTableBase (h : Handler) (m : Mode) : Byte :=
  if h ∈ [.sta, .stx, .sty] then
    match m with
    | .zp => 3#8 | .zpx | .zpy | .abs => 4#8 | .abx | .aby => 5#8 | _ => 6#8
  else if h ∈ [.asl, .lsr, .rol, .ror, .inc, .dec] then
    match m with
    | .imp => 2#8 | .zp => 5#8 | .abx => 7#8 | _ => 6#8
  else if h ∈ [.pha, .php] then 3#8
  else if h ∈ [.pla, .plp] then 4#8
  else if h ∈ [.rts, .rti, .jsr] then 6#8
  else if h = .brk then 7#8
  else if h = .jmp then (if m = .abs then 3#8 else 5#8)
  else match m with
    | .imp | .imm | .rel => 2#8 | .zp => 3#8 | .izx => 6#8 | .izy => 5#8 | _ => 4#8

/-- Every row that the rule of a handler lists has that cost (R86, R349). -/
theorem rowsOf_base (h : Handler) : ∀ r ∈ rowsOf h, (table r.1).base = timingTableBase h r.2 := by
  cases h <;> decide

/-- Settles O6: the rows each rule lists, and the unassigned opcodes one by one. -/
theorem baseCostsAreThoseOfTheTimingTables : Obligations.BaseCostsAreThoseOfTheTimingTables := by
  unfold Obligations.BaseCostsAreThoseOfTheTimingTables
  constructor
  · intro i assigned
    exact rowsOf_base i.handler _ ((listed_or_unassigned i).resolve_right assigned)
  · decide

/-! ## The run to STOP -/

theorem ended_iff (stop : Word) (s : State) : ended stop s = true ↔ s.cycles = 0#8 ∧ s.pc = stop := by
  simp [ended, complete]

/-- A run that has ended takes no step. -/
theorem runToStop_of_ended {stop : Word} {s : State} (h : ended stop s = true) (fuel : Nat) :
    runToStop stop fuel s = some (0, s) := by
  cases fuel <;> simp [runToStop, h]

theorem runToStop_zero_of_not_ended {stop : Word} {s : State} (h : ¬ ended stop s = true) :
    runToStop stop 0 s = none := if_neg h

/-- A run that has not ended goes on for as long as it has fuel. -/
theorem runToStop_succ_of_not_ended {stop : Word} {s t : State} (h : ¬ ended stop s = true) (one : step s = .next t)
    (fuel : Nat) : runToStop stop (fuel + 1) s = (runToStop stop fuel t).map fun r => (r.1 + 1, r.2) := by
  simp [runToStop, h, one]

/-- `t` is the first state of the run from `s` that has ended, `n` steps away (R351). -/
def EndsFirstAt (stop : Word) (n : Nat) (s t : State) : Prop :=
  core.run n s = .next t ∧ t.cycles = 0#8 ∧ t.pc = stop ∧
    ∀ k, k < n → ∃ u, core.run k s = .next u ∧ ¬ (u.cycles = 0#8 ∧ u.pc = stop)

/-- From a state that has ended, the first such state is itself. -/
theorem endsFirstAt_of_ended {stop : Word} {s : State} (h : ended stop s = true) (n : Nat) (t : State) :
    EndsFirstAt stop n s t ↔ n = 0 ∧ t = s := by
  have hs := (ended_iff stop s).1 h
  constructor
  · rintro ⟨run, -, -, before⟩
    cases n with
    | zero => exact ⟨rfl, (Host.Outcome.next.inj run).symm⟩
    | succ n =>
      obtain ⟨u, start, not⟩ := before 0 n.succ_pos
      obtain rfl : s = u := Host.Outcome.next.inj start
      exact absurd hs not
  · rintro ⟨rfl, rfl⟩
    exact ⟨rfl, hs.1, hs.2, fun k hk => absurd hk k.not_lt_zero⟩

theorem runToStop_iff_of_ended {stop : Word} {s : State} (h : ended stop s = true) (fuel n : Nat) (t : State) :
    runToStop stop fuel s = some (n, t) ↔ n ≤ fuel ∧ EndsFirstAt stop n s t := by
  rw [runToStop_of_ended h, endsFirstAt_of_ended h]
  constructor
  · rintro ⟨⟩
    exact ⟨fuel.zero_le, rfl, rfl⟩
  · rintro ⟨-, rfl, rfl⟩
    rfl

theorem not_endsFirstAt_zero {stop : Word} {s : State} (h : ¬ ended stop s = true) (t : State) :
    ¬ EndsFirstAt stop 0 s t := by
  rintro ⟨run, cycles, pc, -⟩
  obtain rfl : s = t := Host.Outcome.next.inj run
  exact h ((ended_iff stop s).2 ⟨cycles, pc⟩)

/-- From a state that has not, it is that of the run from the next state. -/
theorem endsFirstAt_succ {stop : Word} {s u : State} (h : ¬ ended stop s = true) (one : step s = .next u) (n : Nat)
    (t : State) : EndsFirstAt stop (n + 1) s t ↔ EndsFirstAt stop n u t := by
  have later (k : Nat) : core.run (k + 1) s = core.run k u := run_succ one k
  have notNow : ∃ v, core.run 0 s = .next v ∧ ¬ (v.cycles = 0#8 ∧ v.pc = stop) :=
    ⟨s, rfl, mt (ended_iff stop s).2 h⟩
  simp only [EndsFirstAt, Nat.forall_lt_succ_left, later, notNow, true_and]

/-- Settles O49, by induction on the fuel. -/
theorem runToStopEndsAtTheFirstBoundaryAtStop : Obligations.RunToStopEndsAtTheFirstBoundaryAtStop := by
  unfold Obligations.RunToStopEndsAtTheFirstBoundaryAtStop
  intro stop fuel n s t
  show runToStop stop fuel s = some (n, t) ↔ n ≤ fuel ∧ EndsFirstAt stop n s t
  induction fuel generalizing n s with
  | zero =>
    by_cases h : ended stop s = true
    · exact runToStop_iff_of_ended h 0 n t
    · rw [runToStop_zero_of_not_ended h, Nat.le_zero]
      constructor
      · exact fun answers => nomatch answers
      · rintro ⟨rfl, ends⟩
        exact absurd ends (not_endsFirstAt_zero h t)
  | succ fuel ih =>
    by_cases h : ended stop s = true
    · exact runToStop_iff_of_ended h (fuel + 1) n t
    · obtain ⟨u, one⟩ := everyStepAnswersANextState s
      rw [runToStop_succ_of_not_ended h one]
      cases n with
      | zero => simp [not_endsFirstAt_zero h]
      | succ n =>
        rw [endsFirstAt_succ h one, Nat.succ_le_succ_iff, ← ih]
        simp

end Sys2Proof.Machine
end
